-- ==== Sys2Proof/Word.lean ====
section
/-! DEFINITION. The two word types of the node: the byte of the host port and the station bus, and the 32-bit tick of the
timebase (00_scope.md, Documentation notes). -/

namespace Sys2Proof

/-- One character of the station bus or one byte of the host port. -/
abbrev Byte := BitVec 8

/-- A tick of the timebase: milliseconds since the last hard reset, counted modulo 2 to the 32 (R188). -/
abbrev Tick := BitVec 32

/-- A node number, 0 to 7. -/
abbrev Node := Fin 8

/-- A homed port, 0 to 15. -/
abbrev Port := Fin 16

/-- A band: 1 to 7, and 0 for NONE. -/
abbrev Band := Fin 8

/-- An antenna id, 16 times the home node plus the port (R1). -/
abbrev Antenna := Fin 128

end Sys2Proof
end

