-- ==== Sys2Proof/Syntax.lean ====
section
/-! DEFINITION. The commands of the node: one constructor for each row of spec/opcode_table.json, with the row's operands. -/

namespace Sys2Proof

/-- A frame as it closed complete in the receive assembly (R24): the five header characters, the body and the two CRC
characters as one number, high byte first. -/
structure WireFrame where
  kind        : Byte
  source      : Byte
  sequence    : Byte
  destination : Byte
  length      : Byte
  body        : List Byte
  crc         : BitVec 16
  deriving DecidableEq, Repr

/-- The two selection records of a position (R92). -/
inductive SelName where
  | tx
  | rx
  deriving DecidableEq, Repr

/-- The commands. The docstring of a group names where its operands come from. -/
inductive Instr where
  /-- HARD_RESET: the strap pins NODE2–NODE0, and whether the RESET line is asserted (true) or power has come on (false). -/
  | hardReset (straps : BitVec 3) (byLine : Bool)
  /-- PUT: the item, the index and the value's bytes (R183). -/
  | put (item index : Byte) (value : List Byte)
  | start (minute second : Byte)
  | restart
  | restartTakesEffect
  | select (choice : Byte)
  | recallPair
  | release (scope : Byte)
  | evict (node : Byte)
  | disable (port : Byte)
  | enable (port : Byte)
  | status
  | notices
  | view (node : Byte)
  | catalogueRequest (node index : Byte)
  | snapshot (clear : Byte)
  | counters
  | faults (node : Byte)
  | faultClear (node : Byte)
  | mask (mask : BitVec 16) (enable : Byte)
  /-- BAD_REQUEST: bytes that arrive at the host port and complete no good request, and whether one of them had a framing
  error (log entry 20). -/
  | badRequest (bytes : List Byte) (framingError : Bool)
  /-- HOST_RECORD_GAP: the bytes of the record that the gap finds open, none when bytes are being discarded (log
  entry 20). -/
  | hostRecordGap (bytes : List Byte)
  | hostReplySent
  | bandSettle
  | pttPress
  | pttRelease
  | keyWaitEnd
  | ampStep
  | inhibitStep
  | tailAmpStep
  | tailEnd
  | busFree
  | frameAttemptStart
  /-- READ_BACK_MISMATCH: the place of the driven character, and the framing bit and byte that were read back. -/
  | readBackMismatch (index : Nat) (framing : Bool) (byte : Byte)
  | frameSent
  | frameRejected (frame : WireFrame)
  | frameAddressedElsewhere (frame : WireFrame)
  | frameContentBad (frame : WireFrame)
  | frameReceivedHello (frame : WireFrame)
  | frameReceivedCatalogue (frame : WireFrame)
  | frameReceivedRoll (frame : WireFrame)
  | frameReceivedAsk (frame : WireFrame)
  | frameReceivedGrant (frame : WireFrame)
  | frameReceivedWait (frame : WireFrame)
  | frameReceivedRefuse (frame : WireFrame)
  | frameReceivedFreeRelease (frame : WireFrame)
  | frameReceivedFreeFromHome (frame : WireFrame)
  | frameReceivedBid (frame : WireFrame)
  | frameReceivedTxon (frame : WireFrame)
  | frameReceivedTxoff (frame : WireFrame)
  | frameReceivedDrop (frame : WireFrame)
  | rollDue
  | peerTimeout (node : Node)
  | orphanHoldExpiry (node : Node)
  | listenInEnd
  | isolationTimeout
  | replyDeadline (record : SelName)
  | windowEnd
  | bidRecordExpiry (node : Node)
  | hangEnd
  | hourBoundary
  | chainRefresh
  /-- BUS_BUSY: the character whose start bit it is, its framing bit and its byte. -/
  | busBusy (framing : Bool) (byte : Byte)
  /-- FRAMING_BIT_INSIDE_FRAME: the byte of the character, whose framing bit is 1. -/
  | framingBitInsideFrame (byte : Byte)
  /-- BAND_LINES_CHANGE: the code BAND3–BAND0 now shows. -/
  | bandLinesChange (code : BitVec 4)
  | resetReleased
  deriving DecidableEq, Repr

end Sys2Proof
end

