-- ==== Sys2Proof/Config.lean ====
section
/-! DEFINITION. The fixed numbers of the node and the one free value of the model. -/

namespace Sys2Proof

/-- A value the spec leaves without meaning (R39, R66: the epoch, last sequence and last-frame time of an ABSENT record).
It has no body: nothing can be proved about it, and each use takes a new index. Log entry 7. -/
opaque Config.unstated : Nat → BitVec 32

/-- Places of the outbound queue (R32). -/
abbrev Config.queuePlaces : Nat := 12
/-- Attempts after which a frame is given up (R30). -/
abbrev Config.attemptLimit : Nat := 8
/-- Ticks a band code must hold to settle (R14). -/
abbrev Config.settleTicks : Nat := 20
/-- Ticks between two refreshes of the relay chain (R149). -/
abbrev Config.refreshTicks : Nat := 100
/-- Entries of a band's stack (R99). -/
abbrev Config.stackPlaces : Nat := 4
/-- Top of every live counter (R175). -/
abbrev Config.counterTop : Nat := 65535
/-- Top of a collapse count and of the changes this hour (R178, R132). -/
abbrev Config.smallTop : Nat := 255
/-- Ticks without a byte that close an open host record or end a discard (R180). -/
abbrev Config.gapTicks : Nat := 5
/-- Longest body of a host request (R180). -/
abbrev Config.requestBody : Nat := 40
/-- The number by which FOLLOW travels in host records (R16). -/
abbrev Config.follow : Nat := 16

end Sys2Proof
end

