-- ==== Sys2Proof/Machine/State.lean ====
section
/-! DEFINITION. The state of one node as plain data, block by block, and the state right after a hard reset. -/

namespace Sys2Proof.Machine

/-! ### Names -/

/-- The twelve frame kinds, in the order of their codes 01 to 0C (R21). -/
inductive FrameKind where
  | hello | catalogue | roll | ask | grant | wait | refuse | free | bid | txon | txoff | drop
  deriving DecidableEq, Repr

/-- What a holder does with an antenna (R22: codes 0 and 1). -/
inductive Use where
  | tx | listen
  deriving DecidableEq, Repr

/-- A set of uses (R68). -/
structure Uses where
  tx     : Bool
  listen : Bool
  deriving DecidableEq, Repr

/-- The class of a position; a lower number is better (R117). -/
inductive Class where
  | run | mult | aux
  deriving DecidableEq, Repr

inductive Role where
  | position | tower
  deriving DecidableEq, Repr

/-- The mode of the node (R55). -/
inductive Mode where
  | setup | listenIn | active
  deriving DecidableEq, Repr

/-- The kind of an antenna (R2). -/
inductive Kind where
  | tx | rx
  deriving DecidableEq, Repr

inductive BusRate where
  | r62500 | r125000 | r250000
  deriving DecidableEq, Repr

inductive RollInterval where
  | ms100 | ms250 | ms500
  deriving DecidableEq, Repr

/-- The isolation policy (R131). -/
inductive Policy where
  | block | localKeying
  deriving DecidableEq, Repr

/-- The mode of the governor (R132). -/
inductive GovMode where
  | off | warn | enforce
  deriving DecidableEq, Repr

/-- The reasons of a REFUSE frame, in the order of their codes 1 to 5 (R22). -/
inductive RefuseReason where
  | starting | noPort | disabled | wrongBand | wrongUse
  deriving DecidableEq, Repr

/-- The causes of a FREE frame, in the order of their codes 0 to 3 (R22). -/
inductive FreeCause where
  | release | revoke | reconcile | notYours
  deriving DecidableEq, Repr

/-- The local checks of R18, in their order. -/
inductive LocalReason where
  | emptyChoice | noPort | wrongBand | wrongUse
  deriving DecidableEq, Repr

/-! ### Descriptors and frames -/

/-- The descriptor of a homed antenna (section 1.2). `bands` has bit b set for each band b served. -/
structure Descriptor where
  port     : Port
  bands    : BitVec 8
  kind     : Kind
  share    : Nat
  coupling : Nat
  feedline : Nat
  deriving DecidableEq, Repr

/-- A token state as a ROLL carries it (R22). -/
inductive Held where
  | free | keyed | hanging
  deriving DecidableEq, Repr

/-- The content of a ROLL (R22). -/
structure Roll where
  active      : Bool
  role        : Role
  cls         : Class
  keyed       : Bool
  isolated    : Bool
  follow      : Bool
  band        : Band
  tx          : Option Antenna
  rx          : Option Antenna
  bandToken   : Held
  signalToken : Held
  busy        : BitVec 16
  want        : BitVec 8
  digest      : BitVec 16
  deriving DecidableEq, Repr

/-- What a frame says: its kind with the fields of its body (R22). -/
inductive Content where
  | hello (digest : BitVec 16) (descriptors : List Descriptor)
  | catalogue (digest : BitVec 16) (descriptors : List Descriptor)
  | roll (r : Roll)
  | ask (port : Port) (use : Use) (band : Band) (cls : Class)
  | grant (port : Port) (use : Use) (settle : Nat)
  | wait (port : Port) (place : Nat)
  | refuse (port : Port) (reason : RefuseReason)
  | free (port : Port) (use : Use) (cause : FreeCause)
  | bid (band : Band) (cls : Class) (antenna : Antenna)
  | txon (band : Band) (antenna : Antenna)
  | txoff (band : Band) (antenna : Antenna)
  | drop (band : Band)
  deriving DecidableEq, Repr

/-! ### Configuration store (R183) -/

/-- A list of (output, level) pairs (R138). -/
abbrev Pattern := List (Nat × Bool)

/-- A configured port: its descriptor and its pattern (R138). -/
structure AntennaConfig where
  descriptor : Descriptor
  pattern    : Pattern
  deriving DecidableEq, Repr

/-- One entry of the class table (R137). -/
structure RelayClass where
  operate : Nat
  release : Nat
  bounce  : Nat
  deriving DecidableEq, Repr

/-- The configuration store. Tables by band use places 1 to 7; place 0 (NONE) is never loaded. -/
structure Store where
  nodes        : Nat
  rate         : BusRate
  interval     : RollInterval
  bandLimit    : Vector Nat 8
  signalLimit  : Nat
  role         : Role
  cls          : Class
  hang         : Nat
  d1           : Nat
  d2           : Nat
  margin       : Nat
  policy       : Policy
  orphanHold   : Nat
  dwell        : Nat
  hourLimit    : Nat
  govMode      : GovMode
  relayClasses : Vector RelayClass 4
  outputClass  : Vector (Fin 4) 32
  rest         : BitVec 32
  antennas     : Vector (Option AntennaConfig) 16
  bandPatterns : Vector Pattern 8
  sliceTx      : Vector (Fin 8) 8
  sliceRx      : Vector (Fin 8) 8
  defaultTx    : Vector Nat 8
  defaultRx    : Vector Nat 8
  entries      : Vector (Option Antenna) 64
  deriving DecidableEq, Repr

/-! ### Pins and band lines -/

/-- The levels of the input pins. -/
structure Lines where
  straps : BitVec 3
  band   : BitVec 4
  ptt    : Bool
  deriving DecidableEq, Repr

/-- The band-line decoder (R14). -/
structure BandDecoder where
  settled   : BitVec 4
  decoded   : Band
  candidate : BitVec 4
  start     : Tick
  deriving DecidableEq, Repr

/-! ### Bus controller -/

/-- A frame of the outbound queue (R32). `attempts` above 0 marks the frame in flight. `owned` is the model's mark that the
block which queued the frame still awaits the bus controller's reports on it (R68, R113, R158, R107; log entry 12). -/
structure QueuedFrame where
  content     : Content
  destination : Byte
  attempts    : Nat
  sequence    : Option Byte
  owned       : Bool
  deriving DecidableEq, Repr

/-- The bus controller. The idle count is `idle` whole character times with `idleRest` microseconds of the next one (R19; the
rest is the model's own, log entry 3). The receive assembly is `openFrame`, `stray`, `complete` and `afterComplete` (R24);
`complete` holds the characters of a frame while the command that closes it checks it, and none between commands. -/
structure Bus where
  queue         : List QueuedFrame
  driving       : Bool
  sequence      : Byte
  epoch         : BitVec 4
  allowance     : Option Nat
  free          : Bool
  idle          : Nat
  idleRest      : Nat
  openFrame     : Option (List Byte)
  stray         : List Byte
  complete      : Option (List Byte)
  afterComplete : Bool
  nextRoll      : Option Tick
  deriving DecidableEq, Repr

/-- A learned catalogue (R7). -/
structure Learned where
  known       : Bool
  descriptors : List Descriptor
  deriving DecidableEq, Repr

/-! ### Peer tracker -/

inductive PeerState where
  | absent | current | stale | silent | gone
  deriving DecidableEq, Repr

/-- A peer is known to be keyed on a band, and on which antenna or none (section 3.1). -/
structure KeyedKnowledge where
  band    : Band
  antenna : Option Antenna
  deriving DecidableEq, Repr

/-- The peer record (section 3.1). `lastKind` is the kind of the last frame accepted, which R50 records with a silence. -/
structure Peer where
  state       : PeerState
  epoch       : BitVec 4
  sequence    : Byte
  lastKind    : FrameKind
  lastFrame   : Tick
  orphanEnd   : Option Tick
  roll        : Option Roll
  keyed       : Option KeyedKnowledge
  bandToken   : Held
  signalToken : Held
  tokenBand   : Band
  announced   : Bool
  mismatch    : Bool
  deriving DecidableEq, Repr

structure Tracker where
  peers         : Vector Peer 8
  listenInEnd   : Option Tick
  lastPeerFrame : Tick
  isolated      : Bool
  sentSince     : Bool
  deriving DecidableEq, Repr

/-! ### Antenna arbiter -/

/-- A holder entry (R68). -/
structure Holder where
  node      : Node
  uses      : Uses
  confirmed : Bool
  grantOut  : Bool
  missed    : Nat
  deriving DecidableEq, Repr

/-- A wait entry (R69). -/
structure Waiter where
  node    : Node
  uses    : Uses
  cls     : Class
  arrival : BitVec 16
  deriving DecidableEq, Repr

/-- A port record (R67). -/
structure PortRecord where
  disabled       : Bool
  holders        : List Holder
  waits          : List Waiter
  revokePending  : Bool
  releasePending : Uses
  deriving DecidableEq, Repr

structure Arbiter where
  ports    : Vector PortRecord 16
  arrivals : BitVec 16
  deriving DecidableEq, Repr

/-! ### Selection unit -/

inductive SelState where
  | empty | asking | waiting | granted | reask | failed
  deriving DecidableEq, Repr

/-- A failure reason (R92), with the side that gave a refusal. -/
inductive FailReason where
  | noReply
  | refusedLocally (r : LocalReason)
  | refusedByHome (r : RefuseReason)
  | revoked
  | lost
  | homeGone
  deriving DecidableEq, Repr

/-- A selection record (R92). A choice is 0 to 15 or 16 for FOLLOW. `askSequence` is the number the bus controller reported
for the record's ASK (R35, R107). -/
structure Selection where
  state       : SelState
  choice      : Option Nat
  antenna     : Option Antenna
  reason      : Option FailReason
  place       : Option Nat
  deadline    : Option Tick
  guardEnd    : Option Tick
  askSequence : Option Byte
  deriving DecidableEq, Repr

/-- A pending choice with its recalled mark (R98). -/
structure Slot where
  choice   : Nat
  recalled : Bool
  deriving DecidableEq, Repr

inductive Scope where
  | rx | tx | all
  deriving DecidableEq, Repr

/-- The actual scope of a release, in the order of its codes 0 to 4 (R182). -/
inductive ActualScope where
  | nothing | rx | tx | txTokens | all
  deriving DecidableEq, Repr

/-- The selection unit. A band's stack lists its top entry first. -/
structure SelectionUnit where
  tx             : Selection
  rx             : Selection
  slotTx         : Option Slot
  slotRx         : Option Slot
  pendingRelease : Option Scope
  actualScope    : ActualScope
  memory         : Vector (List (Nat × Nat)) 8
  deriving DecidableEq, Repr

/-! ### Token unit -/

inductive TokenState where
  | free | bidding | keyed | hanging
  deriving DecidableEq, Repr

/-- The own token record (R113). The awaited BID is the owned BID of the outbound queue. -/
structure Tokens where
  state      : TokenState
  band       : Option Band
  antenna    : Option Antenna
  awaitedBid : Bool
  windowEnd  : Option Tick
  hangEnd    : Option Tick
  deriving DecidableEq, Repr

/-- The bid record of a peer (R121). -/
structure Bid where
  band    : Band
  cls     : Class
  antenna : Antenna
  arrival : Tick
  expiry  : Tick
  deriving DecidableEq, Repr

/-- The governor state (R132). -/
structure Governor where
  lastBand   : Option Band
  lastChange : Option Tick
  changes    : Nat
  nextHour   : Option Tick
  deriving DecidableEq, Repr

/-! ### Drive merger -/

/-- The record of the last drive change (R141). -/
structure DriveChange where
  tick    : Tick
  outputs : Nat
  settle  : Nat
  guard   : Nat
  deriving DecidableEq, Repr

/-- The drive merger. `shift` is the word being shifted onto the chain, `latched` the word the relays hold (R148). -/
structure Drive where
  word       : BitVec 32
  localEnd   : Option Tick
  heldEnd    : Option Tick
  lastChange : Option DriveChange
  shift      : Option (BitVec 32)
  latched    : BitVec 32
  refreshAt  : Tick
  deriving DecidableEq, Repr

/-! ### Keying sequencer -/

inductive KeyState where
  | receive | keyWait | stepUp | transmit | stepDown | lockout
  deriving DecidableEq, Repr

/-- The reasons of a LOCKOUT, in the order of the table of R156. -/
inductive LockReason where
  | starting | noBand | noAntenna | bandClosed | rules | isolated | governor | tokenBusy | link
  | collision | bandChange | revoked | restart
  deriving DecidableEq, Repr

/-- The reasons of a forced abort (R165). -/
inductive AbortReason where
  | collision | bandChange | revoked | restart
  deriving DecidableEq, Repr

/-- The kind of a tail (R164). -/
inductive Tail where
  | unkey
  | abort (r : AbortReason)
  deriving DecidableEq, Repr

/-- The lead of a keydown (R158): met at once, counted from a completion still to come, or ending at a tick. -/
inductive Lead where
  | nothing | met | awaitsBid | awaitsTxon
  | ends (t : Tick)
  deriving DecidableEq, Repr

/-- The keying sequencer. `lastAt` is the last step of a step-up (INHIBIT) or of a tail (PROTECT). -/
structure Keying where
  state       : KeyState
  reason      : Option LockReason
  lastReason  : Option LockReason
  level       : Bool
  sample      : Bool
  previous    : Bool
  leadLength  : Nat
  lead        : Lead
  ampAt       : Option Tick
  lastAt      : Option Tick
  tail        : Option Tail
  stepProtect : Bool
  inhibit     : Bool
  amp         : Bool
  protect     : Bool
  deriving DecidableEq, Repr

/-! ### Reporting unit -/

/-- The twelve notice conditions, in the order of their numbers (R171). -/
inductive Notice where
  | isolated | peerStale | peerSilent | peerGone | rules | selTx | selRx
  | keyRefused | keyAborted | governor | overrun | fault
  deriving DecidableEq, Repr

/-- The eleven counters, in the order of the table of R175. -/
inductive Counter where
  | framesSent | framesReceived | framesRejected | framesLost | linkFailures | queueOverruns
  | keyRefusals | keyAborts | collisions | governorWarnings | bandChanges
  deriving DecidableEq, Repr

/-- A set of the eleven counters. -/
structure Counters where
  framesSent       : Nat
  framesReceived   : Nat
  framesRejected   : Nat
  framesLost       : Nat
  linkFailures     : Nat
  queueOverruns    : Nat
  keyRefusals      : Nat
  keyAborts        : Nat
  collisions       : Nat
  governorWarnings : Nat
  bandChanges      : Nat
  deriving DecidableEq, Repr

/-- The fault kinds, in the order of the table of R178. -/
inductive FaultKind where
  | sequenceGap | epochJump | badContent | rulesMismatch | collision | noReply | orphanGrant | silence
  deriving DecidableEq, Repr

/-- A valid fault record (R178). -/
structure FaultRecord where
  kind      : FaultKind
  frameKind : FrameKind
  sequence  : Byte
  time      : Tick
  collapsed : Nat
  deriving DecidableEq, Repr

/-- The reporting unit. Levels, flags and mask have the bit of a condition's number. -/
structure Reporting where
  levels       : BitVec 7
  flags        : BitVec 12
  mask         : BitVec 12
  enabled      : Bool
  alert        : Bool
  live         : Counters
  holding      : Counters
  snapshotTick : Option Tick
  faults       : Vector (Option FaultRecord) 8
  deriving DecidableEq, Repr

/-! ### Host port -/

/-- The status codes of a reply, in the order of their codes 0 to 9 (R182). -/
inductive Status where
  | ok | badRequest | badValue | wrongState | busy | notPosition | empty | pending | badConfig | noBand
  deriving DecidableEq, Repr

/-- A reply due or being sent (R180). -/
structure Reply where
  kind   : Byte
  status : Status
  body   : List Byte
  deriving DecidableEq, Repr

/-- The host port. `replies` lists the reply being sent first (R181). `record` holds the bytes of the open record, first to
last, and is empty while none is open; `lastByte` is the tick of the last byte while a record is open or bytes are being
discarded (R180). -/
structure HostPort where
  replies      : List Reply
  restartHeld  : Bool
  discarding   : Bool
  record       : List Byte
  framingError : Bool
  lastByte     : Tick
  deriving DecidableEq, Repr

/-! ### The node -/

/-- The state of the node. `pending` is the queue of commands and `freeIndex` counts the free values used; both are the
model's own. -/
structure State where
  pending   : List Instr
  freeIndex : Nat
  node      : Node
  inReset   : Bool
  now       : Tick
  lines     : Lines
  mode      : Mode
  cfg       : Store
  digest    : Option (BitVec 16)
  band      : BandDecoder
  bus       : Bus
  learned   : Vector Learned 8
  tracker   : Tracker
  arb       : Arbiter
  sel       : SelectionUnit
  tok       : Tokens
  bids      : Vector (Option Bid) 8
  gov       : Governor
  drv       : Drive
  key       : Keying
  rep       : Reporting
  host      : HostPort
  deriving DecidableEq, Repr

/-- The machine never stops with a fault: every fault of the spec is a record of the reporting unit (R178). -/
inductive Fault where
  deriving DecidableEq, Repr

/-- Why a command has no meaning. -/
inductive Refusal where
  /-- A row of the table without a meaning yet; raised by an arm of exec alone. Safe. -/
  | notModelled (mnemonic : String)
  deriving DecidableEq, Repr

/-! ### Reset values -/

/-- The store after a hard reset (R183, last column). -/
def Store.reset : Store where
  nodes := 2
  rate := .r62500
  interval := .ms250
  bandLimit := Vector.replicate 8 0
  signalLimit := 1
  role := .position
  cls := .aux
  hang := 0
  d1 := 0
  d2 := 0
  margin := 20
  policy := .block
  orphanHold := 30
  dwell := 0
  hourLimit := 0
  govMode := .off
  relayClasses := Vector.replicate 4 ⟨40, 40, 10⟩
  outputClass := Vector.replicate 32 0
  rest := 0
  antennas := Vector.replicate 16 none
  bandPatterns := Vector.replicate 8 []
  sliceTx := Vector.replicate 8 0
  sliceRx := Vector.replicate 8 0
  defaultTx := Vector.replicate 8 0
  defaultRx := Vector.replicate 8 Config.follow
  entries := Vector.replicate 64 none

/-- An ABSENT record with its claims purged (R39). Its epoch, sequence, kind and time have no meaning (log entry 6). -/
def Peer.reset : Peer where
  state := .absent
  epoch := 0
  sequence := 0
  lastKind := .hello
  lastFrame := 0
  orphanEnd := none
  roll := none
  keyed := none
  bandToken := .free
  signalToken := .free
  tokenBand := 0
  announced := false
  mismatch := false

/-- No use. -/
def Uses.empty : Uses := ⟨false, false⟩

/-- An enabled port record with nothing in it (R67). -/
def PortRecord.reset : PortRecord := ⟨false, [], [], false, Uses.empty⟩

/-- The arbiter after a hard reset and after RESTART (R67). -/
def Arbiter.reset : Arbiter := ⟨Vector.replicate 16 PortRecord.reset, 0⟩

/-- An EMPTY record with no choice (R92). -/
def Selection.reset : Selection := ⟨.empty, none, none, none, none, none, none, none⟩

/-- The selection unit after a hard reset and after RESTART (R92, R97, R98, R99). -/
def SelectionUnit.reset : SelectionUnit :=
  ⟨Selection.reset, Selection.reset, none, none, none, .nothing, Vector.replicate 8 []⟩

/-- The FREE token record (R114). -/
def Tokens.reset : Tokens := ⟨.free, none, none, false, none, none⟩

/-- No bid records (R114). -/
def resetBids : Vector (Option Bid) 8 := Vector.replicate 8 none

/-- Every learned catalogue unknown (R7). -/
def resetLearned : Vector Learned 8 := Vector.replicate 8 ⟨false, []⟩

/-- Every peer record ABSENT (R39). -/
def resetPeers : Vector Peer 8 := Vector.replicate 8 Peer.reset

/-- Counters at 0. -/
def Counters.zero : Counters := ⟨0, 0, 0, 0, 0, 0, 0, 0, 0, 0, 0⟩

/-- The bus controller after a hard reset (R36, R19). -/
def Bus.reset : Bus where
  queue := []
  driving := false
  sequence := 0
  epoch := 0
  allowance := none
  free := false
  idle := 0
  idleRest := 0
  openFrame := none
  stray := []
  complete := none
  afterComplete := false
  nextRoll := none

/-- The reporting unit after a hard reset (R172, R174–R176, R179). -/
def Reporting.reset : Reporting where
  levels := 0
  flags := 0
  mask := 0
  enabled := false
  alert := false
  live := Counters.zero
  holding := Counters.zero
  snapshotTick := none
  faults := Vector.replicate 8 none

/-- The sequencer after a hard reset (R153, R154). `sample` is the PTT sample taken in the tick of the reset. -/
def Keying.reset (ptt : Bool) : Keying where
  state := .receive
  reason := none
  lastReason := none
  level := false
  sample := ptt
  previous := false
  leadLength := 0
  lead := .nothing
  ampAt := none
  lastAt := none
  tail := none
  stepProtect := false
  inhibit := true
  amp := false
  protect := false

/-- The node after a hard reset (R188): the strapped number sampled, the timebase at 0, SETUP, every block at its
hard-reset state. The levels of the input pins are kept, and the decoder's candidate is their sample (R14). -/
def State.hardReset (lines : Lines) (inReset : Bool) : State where
  pending := []
  freeIndex := 0
  node := lines.straps.toFin
  inReset := inReset
  now := 0
  lines := lines
  mode := .setup
  cfg := Store.reset
  digest := none
  band := ⟨0, 0, lines.band, 0⟩
  bus := Bus.reset
  learned := resetLearned
  tracker := ⟨resetPeers, none, 0, false, false⟩
  arb := Arbiter.reset
  sel := SelectionUnit.reset
  tok := Tokens.reset
  bids := resetBids
  gov := ⟨none, none, 0, none⟩
  drv := ⟨0, none, none, none, none, 0, 100⟩
  key := Keying.reset lines.ptt
  rep := Reporting.reset
  host := ⟨[], false, false, [], false, 0⟩

/-- The machine right after power-on: the hard-reset state with every strap and band line low and PTT released
(DESIGN CHOICE, log entry 4). -/
def State.reset : State := State.hardReset ⟨0, 0, false⟩ false

/-! ### One update for each block -/

def State.setPending (s : State) (x : List Instr) : State := { s with pending := x }
def State.setFreeIndex (s : State) (x : Nat) : State := { s with freeIndex := x }
def State.setInReset (s : State) (x : Bool) : State := { s with inReset := x }
def State.setNow (s : State) (x : Tick) : State := { s with now := x }
def State.setLines (s : State) (x : Lines) : State := { s with lines := x }
def State.setMode (s : State) (x : Mode) : State := { s with mode := x }
def State.setCfg (s : State) (x : Store) : State := { s with cfg := x }
def State.setDigest (s : State) (x : Option (BitVec 16)) : State := { s with digest := x }
def State.setBand (s : State) (x : BandDecoder) : State := { s with band := x }
def State.setBus (s : State) (x : Bus) : State := { s with bus := x }
def State.setLearned (s : State) (x : Vector Learned 8) : State := { s with learned := x }
def State.setTracker (s : State) (x : Tracker) : State := { s with tracker := x }
def State.setArb (s : State) (x : Arbiter) : State := { s with arb := x }
def State.setSel (s : State) (x : SelectionUnit) : State := { s with sel := x }
def State.setTok (s : State) (x : Tokens) : State := { s with tok := x }
def State.setBids (s : State) (x : Vector (Option Bid) 8) : State := { s with bids := x }
def State.setGov (s : State) (x : Governor) : State := { s with gov := x }
def State.setDrv (s : State) (x : Drive) : State := { s with drv := x }
def State.setKey (s : State) (x : Keying) : State := { s with key := x }
def State.setRep (s : State) (x : Reporting) : State := { s with rep := x }
def State.setHost (s : State) (x : HostPort) : State := { s with host := x }

end Sys2Proof.Machine
end

