-- ==== Sys2Proof/Machine/Ops.lean ====
section
/-! DEFINITION. Operations that several blocks share: ticks, the CRC, the tables by node and port, the counters, the notices
and the fault records. -/

namespace Sys2Proof.Machine

/-! ### Ticks (R188) -/

/-- Tick `u` is later than tick `t`: the difference, modulo 2 to the 32, lies between 1 and 2 147 483 647. -/
def later (u t : Tick) : Bool := decide (1 ≤ (u - t).toNat ∧ (u - t).toNat ≤ 2147483647)

/-- An end is at or before the current tick: it is not later than it. -/
def reached (stop now : Tick) : Bool := !later stop now

/-- The later of two ticks. -/
def laterOf (a b : Tick) : Tick := if later b a then b else a

/-- The tick `k` milliseconds after `t`. -/
def after (t : Tick) (k : Nat) : Tick := t + BitVec.ofNat 32 k

/-- An end that may be absent lies at or before the current tick; an absent one is not reached. -/
def dueAt (stop : Option Tick) (now : Tick) : Bool :=
  match stop with
  | some t => reached t now
  | none => false

/-- An end that may be none no longer holds anything back: it is none, or at or before the current tick (R159). -/
def passed (stop : Option Tick) (now : Tick) : Bool :=
  match stop with
  | some t => reached t now
  | none => true

/-- The ticks from `now` to an end: 0 when it has passed or is none (R145, R152). -/
def remaining (stop : Option Tick) (now : Tick) : Nat :=
  match stop with
  | some t => if later t now then (t - now).toNat else 0
  | none => 0

/-- The later of two ends, either of which may be none (R144). -/
def laterEnd (a b : Option Tick) : Option Tick :=
  match a, b with
  | some x, some y => some (laterOf x y)
  | some x, none => some x
  | none, y => y

/-! ### The CRC (R20) -/

/-- One bit shifted out of the CRC register through the generator 0x1021. -/
def crcShift (reg : BitVec 16) : BitVec 16 :=
  if reg.msb then (reg <<< 1) ^^^ 0x1021#16 else reg <<< 1

/-- `n` shifts of the CRC register. -/
def crcShifts : Nat → BitVec 16 → BitVec 16
  | 0, reg => reg
  | n + 1, reg => crcShifts n (crcShift reg)

/-- One character taken into the CRC register, most significant bit first. -/
def crcByte (reg : BitVec 16) (b : Byte) : BitVec 16 :=
  crcShifts 8 (reg ^^^ (b.zeroExtend 16 <<< 8))

/-- The CRC of a list of characters: the register starts at 0xFFFF, nothing is reflected or inverted. -/
def crc (bytes : List Byte) : BitVec 16 := bytes.foldl crcByte 0xFFFF#16

/-! ### Numbers -/

def Class.number : Class → Nat
  | .run => 0
  | .mult => 1
  | .aux => 2

/-- Ranks compared class first, then node number (R117): the first is better. -/
def betterRank (c : Class) (n : Node) (c' : Class) (n' : Node) : Bool :=
  decide (c.number < c'.number ∨ (c.number = c'.number ∧ n.val < n'.val))

/-- The home of an antenna id (R1). -/
def homeOf (a : Antenna) : Node := ⟨a.val / 16, by omega⟩

/-- The port of an antenna id (R1). -/
def portOf (a : Antenna) : Port := ⟨a.val % 16, by omega⟩

/-- The antenna of a home's port (R1). -/
def antennaAt (home : Node) (port : Port) : Antenna := ⟨16 * home.val + port.val, by omega⟩

def allNodes : List Node := [0, 1, 2, 3, 4, 5, 6, 7]

def allPorts : List Port := [0, 1, 2, 3, 4, 5, 6, 7, 8, 9, 10, 11, 12, 13, 14, 15]

def allBands : List Band := [1, 2, 3, 4, 5, 6, 7]

/-- The peers of the node: every node number other than its own. -/
def peersOf (s : State) : List Node := allNodes.filter (fun n => n != s.node)

def RollInterval.ms : RollInterval → Nat
  | .ms100 => 100
  | .ms250 => 250
  | .ms500 => 500

def BusRate.bps : BusRate → Nat
  | .r62500 => 62500
  | .r125000 => 125000
  | .r250000 => 250000

def Uses.isEmpty (u : Uses) : Bool := !u.tx && !u.listen

def Uses.has (u : Uses) : Use → Bool
  | .tx => u.tx
  | .listen => u.listen

def Uses.add (u : Uses) : Use → Uses
  | .tx => { u with tx := true }
  | .listen => { u with listen := true }

def Uses.remove (u : Uses) : Use → Uses
  | .tx => { u with tx := false }
  | .listen => { u with listen := false }

def Uses.of (use : Use) : Uses := Uses.empty.add use

/-- The uses of a set. TX comes first, which R78 and R91 leave open (DESIGN CHOICE, log entry 38). -/
def Uses.toList (u : Uses) : List Use :=
  (if u.tx then [Use.tx] else []) ++ (if u.listen then [Use.listen] else [])

/-- A descriptor serves a band: one of 1 to 7 whose bit is set. -/
def Descriptor.serves (d : Descriptor) (b : Band) : Bool := b != 0 && d.bands.getLsbD b.val

/-! ### The blocks' records -/

def State.peer (s : State) (p : Node) : Peer := s.tracker.peers[p]

def State.setPeer (s : State) (p : Node) (r : Peer) : State :=
  s.setTracker { s.tracker with peers := s.tracker.peers.set p r }

def State.port (s : State) (p : Port) : PortRecord := s.arb.ports[p]

def State.setPort (s : State) (p : Port) (r : PortRecord) : State :=
  s.setArb { s.arb with ports := s.arb.ports.set p r }

def State.selection (s : State) : SelName → Selection
  | .tx => s.sel.tx
  | .rx => s.sel.rx

def State.setSelection (s : State) : SelName → Selection → State
  | .tx, r => s.setSel { s.sel with tx := r }
  | .rx, r => s.setSel { s.sel with rx := r }

def State.removeBid (s : State) (p : Node) : State := s.setBids (s.bids.set p none)

/-- The use a selection record asks with (R92). -/
def useOf : SelName → Use
  | .tx => .tx
  | .rx => .listen

/-- The record that asks with a use (R102). -/
def recordFor : Use → SelName
  | .tx => .tx
  | .listen => .rx

/-- The node operates on the bus: START has succeeded (R19) and the RESET line is not held (R188). -/
def State.running (s : State) : Bool := !s.inReset && s.mode != .setup

/-- The role that START fixed; in SETUP every node acts as a position (R15, R169). -/
def State.isTower (s : State) : Bool := s.mode != .setup && s.cfg.role == .tower

/-- The sequencer is between the start of a keydown and the end of its tail (R95, R98). -/
def KeyState.busy : KeyState → Bool
  | .keyWait | .stepUp | .transmit | .stepDown => true
  | .receive | .lockout => false

/-- The states in which a keydown can be aborted (R165). -/
def KeyState.keyed : KeyState → Bool
  | .keyWait | .stepUp | .transmit => true
  | .receive | .stepDown | .lockout => false

/-! ### Counters (R175) -/

/-- An addition to a counter, which stops at 65 535. -/
def saturate (n k : Nat) : Nat := min (n + k) Config.counterTop

def Counters.get (c : Counters) : Counter → Nat
  | .framesSent => c.framesSent
  | .framesReceived => c.framesReceived
  | .framesRejected => c.framesRejected
  | .framesLost => c.framesLost
  | .linkFailures => c.linkFailures
  | .queueOverruns => c.queueOverruns
  | .keyRefusals => c.keyRefusals
  | .keyAborts => c.keyAborts
  | .collisions => c.collisions
  | .governorWarnings => c.governorWarnings
  | .bandChanges => c.bandChanges

def Counters.add (c : Counters) (k : Nat) : Counter → Counters
  | .framesSent => { c with framesSent := saturate c.framesSent k }
  | .framesReceived => { c with framesReceived := saturate c.framesReceived k }
  | .framesRejected => { c with framesRejected := saturate c.framesRejected k }
  | .framesLost => { c with framesLost := saturate c.framesLost k }
  | .linkFailures => { c with linkFailures := saturate c.linkFailures k }
  | .queueOverruns => { c with queueOverruns := saturate c.queueOverruns k }
  | .keyRefusals => { c with keyRefusals := saturate c.keyRefusals k }
  | .keyAborts => { c with keyAborts := saturate c.keyAborts k }
  | .collisions => { c with collisions := saturate c.collisions k }
  | .governorWarnings => { c with governorWarnings := saturate c.governorWarnings k }
  | .bandChanges => { c with bandChanges := saturate c.bandChanges k }

/-- The eleven counters in the order of R175. -/
def Counters.toList (c : Counters) : List Nat :=
  [c.framesSent, c.framesReceived, c.framesRejected, c.framesLost, c.linkFailures, c.queueOverruns, c.keyRefusals,
    c.keyAborts, c.collisions, c.governorWarnings, c.bandChanges]

/-- `k` added to a live counter. -/
def State.count (s : State) (c : Counter) (k : Nat) : State :=
  s.setRep { s.rep with live := s.rep.live.add k c }

/-! ### Notices (R171) -/

/-- The number of a condition (R171). -/
def Notice.number : Notice → Nat
  | .isolated => 0
  | .peerStale => 1
  | .peerSilent => 2
  | .peerGone => 3
  | .rules => 4
  | .selTx => 5
  | .selRx => 6
  | .keyRefused => 7
  | .keyAborted => 8
  | .governor => 9
  | .overrun => 10
  | .fault => 11

/-- The set of one condition. -/
def Notice.bit (n : Notice) : BitVec 12 := 1#12 <<< n.number

/-- An occurrence of an event condition sets its change flag. -/
def State.raise (s : State) (n : Notice) : State :=
  s.setRep { s.rep with flags := s.rep.flags ||| n.bit }

/-! ### Fault records (R178) -/

/-- A fault recorded against a source node: the first fills the record and raises FAULT, later ones raise its collapse
count. -/
def State.recordFault (s : State) (p : Node) (kind : FaultKind) (frameKind : FrameKind) (sequence : Byte) : State :=
  match s.rep.faults[p] with
  | none =>
    (s.setRep { s.rep with faults := s.rep.faults.set p (some ⟨kind, frameKind, sequence, s.now, 0⟩) }).raise .fault
  | some r =>
    s.setRep { s.rep with faults := s.rep.faults.set p (some { r with collapsed := min (r.collapsed + 1) Config.smallTop }) }

end Sys2Proof.Machine
end

