-- ==== Sys2Proof/Machine/Operands.lean ====
section
/-! DEFINITION. The operand forms: the codes of frame and host-record fields, frame bodies and frames in both directions
(R20–R22), and the value of each configuration item (R183). -/

namespace Sys2Proof.Machine

/-! ### Codes (R22) -/

/-- A number as one byte. -/
def byte (n : Nat) : Byte := BitVec.ofNat 8 n

def Class.ofCode : Nat → Option Class
  | 0 => some .run
  | 1 => some .mult
  | 2 => some .aux
  | _ => none

def Use.code : Use → Nat
  | .tx => 0
  | .listen => 1

def Use.ofCode : Nat → Option Use
  | 0 => some .tx
  | 1 => some .listen
  | _ => none

def Held.code : Held → Nat
  | .free => 0
  | .keyed => 1
  | .hanging => 2

def Held.ofCode : Nat → Option Held
  | 0 => some .free
  | 1 => some .keyed
  | 2 => some .hanging
  | _ => none

def RefuseReason.code : RefuseReason → Nat
  | .starting => 1
  | .noPort => 2
  | .disabled => 3
  | .wrongBand => 4
  | .wrongUse => 5

def RefuseReason.ofCode : Nat → Option RefuseReason
  | 1 => some .starting
  | 2 => some .noPort
  | 3 => some .disabled
  | 4 => some .wrongBand
  | 5 => some .wrongUse
  | _ => none

def FreeCause.code : FreeCause → Nat
  | .release => 0
  | .revoke => 1
  | .reconcile => 2
  | .notYours => 3

def FreeCause.ofCode : Nat → Option FreeCause
  | 0 => some .release
  | 1 => some .revoke
  | 2 => some .reconcile
  | 3 => some .notYours
  | _ => none

def FrameKind.code : FrameKind → Nat
  | .hello => 1
  | .catalogue => 2
  | .roll => 3
  | .ask => 4
  | .grant => 5
  | .wait => 6
  | .refuse => 7
  | .free => 8
  | .bid => 9
  | .txon => 10
  | .txoff => 11
  | .drop => 12

def FrameKind.ofCode : Nat → Option FrameKind
  | 1 => some .hello
  | 2 => some .catalogue
  | 3 => some .roll
  | 4 => some .ask
  | 5 => some .grant
  | 6 => some .wait
  | 7 => some .refuse
  | 8 => some .free
  | 9 => some .bid
  | 10 => some .txon
  | 11 => some .txoff
  | 12 => some .drop
  | _ => none

/-- The urgent kinds (R21). -/
def FrameKind.urgent : FrameKind → Bool
  | .bid | .txon | .txoff | .drop => true
  | .hello | .catalogue | .roll | .ask | .grant | .wait | .refuse | .free => false

/-- The broadcast kinds, which carry destination 255 (R21). -/
def FrameKind.broadcast : FrameKind → Bool
  | .hello | .catalogue | .roll | .bid | .txon | .txoff | .drop => true
  | .ask | .grant | .wait | .refuse | .free => false

def Content.kind : Content → FrameKind
  | .hello _ _ => .hello
  | .catalogue _ _ => .catalogue
  | .roll _ => .roll
  | .ask _ _ _ _ => .ask
  | .grant _ _ _ => .grant
  | .wait _ _ => .wait
  | .refuse _ _ => .refuse
  | .free _ _ _ => .free
  | .bid _ _ _ => .bid
  | .txon _ _ => .txon
  | .txoff _ _ => .txoff
  | .drop _ => .drop

/-! ### Fields -/

/-- A band 0 to 7. -/
def bandOf (b : Byte) : Option Band := if h : b.toNat < 8 then some ⟨b.toNat, h⟩ else none

/-- A band 1 to 7. -/
def realBandOf (b : Byte) : Option Band := if b = 0 then none else bandOf b

/-- An antenna id 0 to 127. -/
def antennaOf (b : Byte) : Option Antenna := if h : b.toNat < 128 then some ⟨b.toNat, h⟩ else none

/-- An antenna field that may be empty: an id, or 255 for none (R1). -/
def antennaField (b : Byte) : Option (Option Antenna) :=
  if b = 255#8 then some none else (antennaOf b).map some

/-- The byte of an antenna field that may be empty (R1). -/
def antennaByte : Option Antenna → Byte
  | some a => byte a.val
  | none => 255#8

def portField (b : Byte) : Option Port := if h : b.toNat < 16 then some ⟨b.toNat, h⟩ else none

def nodeField (b : Byte) : Option Node := if h : b.toNat < 8 then some ⟨b.toNat, h⟩ else none

/-- Two bytes, high byte first. -/
def word2 (hi lo : Byte) : BitVec 16 := hi ++ lo

/-- A 16-bit number as two bytes, high byte first. -/
def bytes2 (w : BitVec 16) : List Byte := [w.extractLsb' 8 8, w.extractLsb' 0 8]

/-- A 32-bit number as four bytes, high byte first. -/
def bytes4 (w : BitVec 32) : List Byte :=
  [w.extractLsb' 24 8, w.extractLsb' 16 8, w.extractLsb' 8 8, w.extractLsb' 0 8]

def flag (b : Bool) : Nat := if b then 1 else 0

/-! ### Descriptors (R22, R8) -/

/-- The four characters of a descriptor. -/
def Descriptor.bytes (d : Descriptor) : List Byte :=
  [byte d.port.val, d.bands,
    byte ((match d.kind with | .tx => 0 | .rx => 64) + (d.share - 1) * 16 + d.coupling), byte d.feedline]

/-- The check of one descriptor (R8): a port of 0 to 15, a non-empty set of bands 1 to 7, a kind TX or RX, a TX-kind share
count of 1 and a feedline group of 0 to 7. The share count and the coupling group cannot leave their ranges. -/
def descriptorOf (port bands mixed feedline : Byte) : Option Descriptor :=
  match portField port with
  | none => none
  | some p =>
    if bands = 0 ∨ bands.getLsbD 0 ∨ mixed.toNat / 64 > 1 ∨ feedline.toNat > 7 then none
    else
      let kind := if mixed.toNat / 64 = 0 then Kind.tx else Kind.rx
      let share := mixed.toNat / 16 % 4 + 1
      if kind = .tx ∧ share ≠ 1 then none
      else some ⟨p, bands, kind, share, mixed.toNat % 16, feedline.toNat⟩

/-- The descriptors of a body, none where one of them fails the check. -/
def descriptorsOf : List Byte → Option (List Descriptor)
  | [] => some []
  | p :: b :: m :: f :: rest =>
    match descriptorOf p b m f, descriptorsOf rest with
    | some d, some ds => some (d :: ds)
    | _, _ => none
  | _ => none

/-- Ports rise strictly, so that none stands twice or out of order (R8). -/
def portsRise : List Descriptor → Bool
  | [] => true
  | [_] => true
  | d :: e :: rest => decide (d.port.val < e.port.val) && portsRise (e :: rest)

/-! ### ROLL (R22) -/

def Roll.bytes (r : Roll) : List Byte :=
  [byte (flag r.active + 2 * (match r.role with | .position => 0 | .tower => 1) + 4 * r.cls.number + 16 * flag r.keyed
      + 32 * flag r.isolated + 64 * flag r.follow),
    byte r.band.val, antennaByte r.tx, antennaByte r.rx, byte (r.bandToken.code + 4 * r.signalToken.code)]
    ++ bytes2 r.busy ++ [r.want] ++ bytes2 r.digest

/-- The content of a ROLL body, none where a field is out of its range (R26, the row of ROLL but for claim faults). -/
def rollOf (flags band tx rx tokens busyHi busyLo want digestHi digestLo : Byte) : Option Roll :=
  if flags.getLsbD 7 ∨ tokens.toNat / 16 ≠ 0 then none
  else
    match Class.ofCode (flags.toNat / 4 % 4), bandOf band, antennaField tx, antennaField rx,
      Held.ofCode (tokens.toNat % 4), Held.ofCode (tokens.toNat / 4 % 4) with
    | some cls, some band, some tx, some rx, some bandToken, some signalToken =>
      if flags.getLsbD 6 ∧ rx ≠ none then none
      else
        some {
          active := flags.getLsbD 0
          role := if flags.getLsbD 1 then .tower else .position
          cls := cls
          keyed := flags.getLsbD 4
          isolated := flags.getLsbD 5
          follow := flags.getLsbD 6
          band := band
          tx := tx
          rx := rx
          bandToken := bandToken
          signalToken := signalToken
          busy := word2 busyHi busyLo
          want := want
          digest := word2 digestHi digestLo }
    | _, _, _, _, _, _ => none

/-! ### Bodies (R22) -/

/-- The body of a frame. -/
def Content.body : Content → List Byte
  | .hello digest ds => bytes2 digest ++ [byte ds.length] ++ ds.flatMap Descriptor.bytes
  | .catalogue digest ds => bytes2 digest ++ [byte ds.length] ++ ds.flatMap Descriptor.bytes
  | .roll r => r.bytes
  | .ask port use band cls => [byte port.val, byte use.code, byte band.val, byte cls.number]
  | .grant port use settle => [byte port.val, byte use.code, byte settle]
  | .wait port place => [byte port.val, byte place]
  | .refuse port reason => [byte port.val, byte reason.code]
  | .free port use cause => [byte port.val, byte use.code, byte cause.code]
  | .bid band cls antenna => [byte band.val, byte cls.number, byte antenna.val]
  | .txon band antenna => [byte band.val, byte antenna.val]
  | .txoff band antenna => [byte band.val, byte antenna.val]
  | .drop band => [byte band.val]

/-- The content of a body of a kind, none where a field is out of its range (R26 but for claim faults and the role). -/
def contentOf : FrameKind → List Byte → Option Content
  | .hello, hi :: lo :: _ :: rest =>
    match descriptorsOf rest with
    | some ds => if portsRise ds then some (.hello (word2 hi lo) ds) else none
    | none => none
  | .catalogue, hi :: lo :: _ :: rest =>
    match descriptorsOf rest with
    | some ds => if portsRise ds then some (.catalogue (word2 hi lo) ds) else none
    | none => none
  | .roll, [fl, b, tx, rx, tk, bh, bl, w, dh, dl] => (rollOf fl b tx rx tk bh bl w dh dl).map .roll
  | .ask, [p, u, b, c] =>
    match portField p, Use.ofCode u.toNat, realBandOf b, Class.ofCode c.toNat with
    | some p, some u, some b, some c => some (.ask p u b c)
    | _, _, _, _ => none
  | .grant, [p, u, t] =>
    match portField p, Use.ofCode u.toNat with
    | some p, some u => if t.toNat ≤ 70 then some (.grant p u t.toNat) else none
    | _, _ => none
  | .wait, [p, n] =>
    match portField p with
    | some p => if 1 ≤ n.toNat ∧ n.toNat ≤ 8 then some (.wait p n.toNat) else none
    | none => none
  | .refuse, [p, r] =>
    match portField p, RefuseReason.ofCode r.toNat with
    | some p, some r => some (.refuse p r)
    | _, _ => none
  | .free, [p, u, c] =>
    match portField p, Use.ofCode u.toNat, FreeCause.ofCode c.toNat with
    | some p, some u, some c => some (.free p u c)
    | _, _, _ => none
  | .bid, [b, c, a] =>
    match realBandOf b, Class.ofCode c.toNat, antennaOf a with
    | some b, some c, some a => some (.bid b c a)
    | _, _, _ => none
  | .txon, [b, a] =>
    match realBandOf b, antennaOf a with
    | some b, some a => some (.txon b a)
    | _, _ => none
  | .txoff, [b, a] =>
    match realBandOf b, antennaOf a with
    | some b, some a => some (.txoff b a)
    | _, _ => none
  | .drop, [b] => (realBandOf b).map .drop
  | _, _ => none

/-- The body length is the one the kind requires; for HELLO and CATALOGUE, 3 + 4 × count with a count of at most 16
(R21, R25). -/
def lengthFits (k : FrameKind) (body : List Byte) : Bool :=
  match k with
  | .hello | .catalogue =>
    match body with
    | _ :: _ :: count :: rest => decide (count.toNat ≤ 16 ∧ rest.length = 4 * count.toNat)
    | _ => false
  | .roll => body.length == 10
  | .ask => body.length == 4
  | .grant | .free | .bid => body.length == 3
  | .wait | .refuse | .txon | .txoff => body.length == 2
  | .drop => body.length == 1

/-! ### Frames (R20) -/

/-- The header and body characters over which the CRC is taken. -/
def covered (f : WireFrame) : List Byte :=
  [f.kind, f.source, f.sequence, f.destination, f.length] ++ f.body

/-- The CRC a frame carries is that of its characters. -/
def crcMatches (f : WireFrame) : Bool := crc (covered f) == f.crc

/-- All characters of a frame in the order they are sent. -/
def wireChars (f : WireFrame) : List Byte := covered f ++ bytes2 f.crc

/-- A frame formed for sending: header, body and CRC (R20, R22). -/
def frameOf (epoch : BitVec 4) (node : Node) (sequence destination : Byte) (c : Content) : WireFrame :=
  let f : WireFrame :=
    ⟨byte c.kind.code, epoch ++ (BitVec.ofNat 4 node.val), sequence, destination, byte c.body.length, c.body, 0⟩
  { f with crc := crc (covered f) }

/-! ### Characters (R19) -/

/-- One bit-time of a character on the station bus. -/
inductive WireBit where
  | start
  | data (b : Bool)
  | framing (b : Bool)
  | stop
  deriving DecidableEq, Repr

/-- A character as it is sent: a start bit, the data bits with the least significant first, the framing bit and a stop bit. -/
def characterBits (framing : Bool) (b : Byte) : List WireBit :=
  .start :: (List.range 8).map (fun k => .data (b.getLsbD k)) ++ [.framing framing, .stop]

/-- What an attempt drives on the pair, bit by bit: the framing bit is 1 on the first character and 0 on every other. -/
def frameBits (f : WireFrame) : List WireBit :=
  (wireChars f).zipIdx.flatMap fun (b, index) => characterBits (decide (index = 0)) b

/-- A character time in microseconds: eleven bit-times. -/
def characterTime (rate : BusRate) : Nat := 11 * 1000000 / rate.bps

/-- The frame that a list of characters spells, none when they are not a complete frame. -/
def frameOfChars : List Byte → Option WireFrame
  | kind :: source :: sequence :: destination :: length :: rest =>
    match rest.drop length.toNat with
    | [hi, lo] => some ⟨kind, source, sequence, destination, length, rest.take length.toNat, word2 hi lo⟩
    | _ => none
  | _ => none

/-- The node number of a source character: its low four bits (R20). -/
def sourceNode (f : WireFrame) : Nat := f.source.toNat % 16

/-- The epoch of a source character: its high four bits (R20). -/
def sourceEpoch (f : WireFrame) : BitVec 4 := f.source.extractLsb' 4 4

/-! ### Values of the configuration items (R183) -/

/-- What a PUT comes to: a record whose length does not fit, a value out of range, or the store with the item set. -/
inductive PutResult where
  | wrongLength
  | badValue
  | stored (cfg : Store)
  deriving DecidableEq, Repr

/-- The pairs of a pattern, none where the bytes are not whole pairs or a level is above 1. -/
def pairsOf : List Byte → Option Pattern
  | [] => some []
  | o :: l :: rest =>
    if l.toNat ≤ 1 then (pairsOf rest).map ((o.toNat, l == 1#8) :: ·) else none
  | _ => none

/-- A pattern PUT accepts (R138): every output 0 to 31, none named twice. -/
def patternFits (p : Pattern) : Bool :=
  p.all (fun e => decide (e.1 ≤ 31)) && (p.map Prod.fst).Nodup

/-- The store with the item set when the value is in range, else BAD_VALUE. -/
def storedIf (ok : Bool) (cfg : Store) : PutResult := if ok then .stored cfg else .badValue

/-- A value of one byte. -/
def oneByte (value : List Byte) (f : Nat → PutResult) : PutResult :=
  match value with
  | [v] => f v.toNat
  | _ => .wrongLength

/-- A value of two bytes. -/
def twoBytes (value : List Byte) (f : Nat → Nat → PutResult) : PutResult :=
  match value with
  | [v, w] => f v.toNat w.toNat
  | _ => .wrongLength

/-- A value of three bytes. -/
def threeBytes (value : List Byte) (f : Nat → Nat → Nat → PutResult) : PutResult :=
  match value with
  | [v, w, x] => f v.toNat w.toNat x.toNat
  | _ => .wrongLength

/-- An index that must be 0. -/
def onlyIndex (index : Nat) (r : PutResult) : PutResult :=
  match r with
  | .wrongLength => .wrongLength
  | r => if index = 0 then r else .badValue

/-- An item with a place for each band 1 to 7. -/
def bandIndex (index : Nat) (f : Band → Store) (ok : Bool) : PutResult :=
  if h : index < 8 then (if index = 0 then .badValue else storedIf ok (f ⟨index, h⟩)) else .badValue

/-- Item 17: bands, kind, and for a kind other than NONE share, coupling, feedline, pair count and pairs (R5, R138, R183). -/
def putAntenna (cfg : Store) (index : Nat) (value : List Byte) : PutResult :=
  match value with
  | [_, kind] =>
    if kind = 2#8 then
      (if h : index < 16 then .stored { cfg with antennas := cfg.antennas.set index none } else .badValue)
    else .wrongLength
  | bands :: kind :: share :: coupling :: feedline :: count :: pairs =>
    if kind = 2#8 ∨ pairs.length ≠ 2 * count.toNat then .wrongLength
    else
      match pairsOf pairs with
      | none => .badValue
      | some pattern =>
        if h : index < 16 then
          storedIf
            (bands != 0 && !bands.getLsbD 0 && decide (kind.toNat ≤ 1) && decide (1 ≤ share.toNat ∧ share.toNat ≤ 4)
              && !(kind == 0 && share != 1) && decide (coupling.toNat ≤ 15) && decide (feedline.toNat ≤ 7)
              && decide (1 ≤ count.toNat ∧ count.toNat ≤ 8) && patternFits pattern)
            { cfg with antennas := cfg.antennas.set index (some
                ⟨⟨⟨index, h⟩, bands, if kind = 0 then .tx else .rx, share.toNat, coupling.toNat, feedline.toNat⟩, pattern⟩) }
        else .badValue
  | _ => .wrongLength

/-- Item 18: pair count and pairs (R138, R183). -/
def putBandPattern (cfg : Store) (index : Nat) (value : List Byte) : PutResult :=
  match value with
  | count :: pairs =>
    if pairs.length ≠ 2 * count.toNat then .wrongLength
    else
      match pairsOf pairs with
      | none => .badValue
      | some pattern =>
        bandIndex index (fun b => { cfg with bandPatterns := cfg.bandPatterns.set b pattern })
          (decide (count.toNat ≤ 8) && patternFits pattern)
  | _ => .wrongLength

/-- The value of one item (R183). An unknown item has no length of its own, so its record is BAD_VALUE (log entry 14). -/
def putItem (cfg : Store) (item index : Nat) (value : List Byte) : PutResult :=
  match item with
  | 1 => onlyIndex index (oneByte value fun v => storedIf (decide (2 ≤ v ∧ v ≤ 8)) { cfg with nodes := v })
  | 2 => onlyIndex index (oneByte value fun v => match v with
      | 0 => .stored { cfg with rate := .r62500 }
      | 1 => .stored { cfg with rate := .r125000 }
      | 2 => .stored { cfg with rate := .r250000 }
      | _ => .badValue)
  | 3 => onlyIndex index (oneByte value fun v => match v with
      | 0 => .stored { cfg with interval := .ms100 }
      | 1 => .stored { cfg with interval := .ms250 }
      | 2 => .stored { cfg with interval := .ms500 }
      | _ => .badValue)
  | 4 => oneByte value fun v =>
      bandIndex index (fun b => { cfg with bandLimit := cfg.bandLimit.set b v }) (decide (v ≤ 3))
  | 5 => onlyIndex index (oneByte value fun v => storedIf (decide (1 ≤ v ∧ v ≤ 8)) { cfg with signalLimit := v })
  | 6 => onlyIndex index (oneByte value fun v => match v with
      | 0 => .stored { cfg with role := .position }
      | 1 => .stored { cfg with role := .tower }
      | _ => .badValue)
  | 7 => onlyIndex index (oneByte value fun v => match Class.ofCode v with
      | some c => .stored { cfg with cls := c }
      | none => .badValue)
  | 8 => onlyIndex index (twoBytes value fun hi lo =>
      storedIf (decide (256 * hi + lo ≤ 30000)) { cfg with hang := 256 * hi + lo })
  | 9 => onlyIndex index (twoBytes value fun v w =>
      storedIf (decide (v ≤ 50 ∧ w ≤ 50)) { cfg with d1 := v, d2 := w })
  | 10 => onlyIndex index (oneByte value fun v => storedIf (decide (v ≤ 20)) { cfg with margin := v })
  | 11 => onlyIndex index (oneByte value fun v => match v with
      | 0 => .stored { cfg with policy := .block }
      | 1 => .stored { cfg with policy := .localKeying }
      | _ => .badValue)
  | 12 => onlyIndex index (oneByte value fun v => storedIf (decide (5 ≤ v ∧ v ≤ 120)) { cfg with orphanHold := v })
  | 13 => onlyIndex index (threeBytes value fun v w m =>
      if v ≤ 60 ∧ w ≤ 30 then
        match m with
        | 0 => .stored { cfg with dwell := v, hourLimit := w, govMode := .off }
        | 1 => .stored { cfg with dwell := v, hourLimit := w, govMode := .warn }
        | 2 => .stored { cfg with dwell := v, hourLimit := w, govMode := .enforce }
        | _ => .badValue
      else .badValue)
  | 14 => threeBytes value fun v w x =>
      if h : index < 4 then
        storedIf (decide (1 ≤ v ∧ v ≤ 40 ∧ 1 ≤ w ∧ w ≤ 40 ∧ x ≤ 10))
          { cfg with relayClasses := cfg.relayClasses.set index ⟨v, w, x⟩ }
      else .badValue
  | 15 => oneByte value fun v =>
      if h : index < 32 ∧ v < 4 then .stored { cfg with outputClass := cfg.outputClass.set index ⟨v, h.2⟩ } else .badValue
  | 16 => oneByte value fun v =>
      if index < 32 ∧ v ≤ 1 then
        .stored { cfg with rest := if v = 1 then cfg.rest ||| (1#32 <<< index) else cfg.rest &&& ~~~(1#32 <<< index) }
      else .badValue
  | 17 => putAntenna cfg index value
  | 18 => putBandPattern cfg index value
  | 19 => twoBytes value fun v w =>
      if h : v < 8 ∧ w < 8 then
        bandIndex index (fun b => { cfg with
          sliceTx := cfg.sliceTx.set b ⟨v, h.1⟩, sliceRx := cfg.sliceRx.set b ⟨w, h.2⟩ }) true
      else .badValue
  | 20 => twoBytes value fun v w =>
      bandIndex index (fun b => { cfg with
        defaultTx := cfg.defaultTx.set b v, defaultRx := cfg.defaultRx.set b w })
        (decide (v ≤ 7 ∧ 8 ≤ w ∧ w ≤ Config.follow))
  | 21 => match value with
      | [v] =>
        if h : index < 64 then
          match antennaField v with
          | some a => .stored { cfg with entries := cfg.entries.set index a }
          | none => .badValue
        else .badValue
      | _ => .wrongLength
  | _ => .badValue

end Sys2Proof.Machine
end

