-- ==== Sys2Proof/Machine/Catalogue.lean ====
section
/-! DEFINITION. Antenna identity, the own and learned catalogues, the want mask and choice resolution (01). -/

namespace Sys2Proof.Machine

/-- What the lookup of an antenna id returns (R12). -/
inductive Lookup where
  | descriptor (d : Descriptor)
  | notConfigured
  | unknown
  | noHome
  deriving DecidableEq, Repr

/-- The own catalogue in ascending port order (R5). -/
def ownDescriptors (s : State) : List Descriptor :=
  allPorts.filterMap (fun p => (s.cfg.antennas[p]).map AntennaConfig.descriptor)

/-- The lookup by antenna id (R12). An id of 255 or 128 to 254 is no `Antenna`. -/
def lookup (s : State) (a : Antenna) : Lookup :=
  let home := homeOf a
  if ¬ home.val < s.cfg.nodes then .noHome
  else if home = s.node then
    match s.cfg.antennas[portOf a] with
    | some c => .descriptor c.descriptor
    | none => .notConfigured
  else if s.learned[home].known then
    match s.learned[home].descriptors.find? (fun d => d.port == portOf a) with
    | some d => .descriptor d
    | none => .notConfigured
  else .unknown

/-- The coupling group of an antenna, 0 where its lookup gives no descriptor (R4). -/
def couplingOf (s : State) (a : Antenna) : Nat :=
  match lookup s a with
  | .descriptor d => d.coupling
  | _ => 0

/-- The node wants the catalogue of `n` (R10): from START on, a peer number less than N whose catalogue is unknown. -/
def wants (s : State) (n : Node) : Bool :=
  s.mode != .setup && decide (n.val < s.cfg.nodes) && n != s.node && !s.learned[n].known

/-- The want mask (R10). -/
def wantMask (s : State) : BitVec 8 :=
  allNodes.foldl (fun m n => if wants s n then m ||| (1#8 <<< n.val) else m) 0#8

/-- A peer's published catalogue replaces the learned one whole (R8). -/
def learn (s : State) (p : Node) (ds : List Descriptor) : State :=
  s.setLearned (s.learned.set p ⟨true, ds⟩)

/-! ### Choices (R17, R18) -/

/-- A choice names a TX choice 0 to 7. -/
def isTxChoice (c : Nat) : Bool := decide (c < 8)

/-- The entry a choice names on a band: none for FOLLOW and on band NONE (R17). The outer option says whether there is an
entry, the inner one whether it holds an antenna. -/
def entryOf (s : State) (b : Band) (c : Nat) : Option (Option Antenna) :=
  if b = 0 then none
  else if h : c < 8 then
    some (s.cfg.entries[s.cfg.sliceTx[b].val * 8 + c]'(by have := s.cfg.sliceTx[b].isLt; omega))
  else if h : c < 16 then
    some (s.cfg.entries[s.cfg.sliceRx[b].val * 8 + (c - 8)]'(by have := s.cfg.sliceRx[b].isLt; omega))
  else none

/-- The local checks of a resolved entry, in order, for the decoded band (R18): the first that fails, or none. -/
def localCheck (s : State) (name : SelName) (entry : Option Antenna) : Option LocalReason :=
  match entry with
  | none => some .emptyChoice
  | some a =>
    match lookup s a with
    | .noHome => some .noPort
    | .notConfigured => some .noPort
    | .unknown => none
    | .descriptor d =>
      if !d.serves s.band.decoded then some .wrongBand
      else if name = .tx ∧ d.kind = .rx then some .wrongUse
      else none

/-- An antenna claimed in a frame is a claim fault (R26): its home does not have it, or it is RX-kind in a TX field. -/
def claimFault (s : State) (asTx : Bool) (a : Antenna) : Bool :=
  match lookup s a with
  | .noHome => true
  | .notConfigured => true
  | .unknown => false
  | .descriptor d => asTx && d.kind == .rx

/-- A claim fault in a field that may be empty. -/
def claimFaultIn (s : State) (asTx : Bool) : Option Antenna → Bool
  | some a => claimFault s asTx a
  | none => false

end Sys2Proof.Machine
end

