-- ==== Sys2Proof/Machine/Bus.lean ====
section
/-! DEFINITION. The bus controller: the receive assembly, the checks of a complete frame, the outbound queue and the link
allowance (02). -/

namespace Sys2Proof.Machine

/-! ### Receive assembly (R24) -/

/-- The total number of characters of a frame, once its fifth character has come. -/
def expectedTotal : List Byte → Option Nat
  | _ :: _ :: _ :: _ :: length :: _ => some (7 + length.toNat)
  | _ => none

/-- A frame, truncated or stray, is rejected: counted once and nothing else (R25). -/
def rejectOne (s : State) : State := s.count .framesRejected 1

/-- The bus busy from a start bit (R19). -/
def busyBus (s : State) : State := s.setBus { s.bus with free := false }

/-- The stray fragment, if there is one, closes and is rejected (R24, R25). -/
def closeStray (s : State) : State :=
  if s.bus.stray.isEmpty then s else rejectOne (s.setBus { s.bus with stray := [] })

/-- One character collected into the receive assembly (R24). Every character that follows a complete frame before the bus is
free goes to the stray fragment, whatever its framing bit (log entry 9). -/
def collect (s : State) (framing : Bool) (b : Byte) : State :=
  match s.bus.openFrame with
  | some cs =>
    if framing then
      rejectOne (s.setBus { s.bus with openFrame := some [b] })
    else
      let cs := cs ++ [b]
      if expectedTotal cs = some cs.length then
        s.setBus { s.bus with openFrame := none, complete := some cs, afterComplete := true }
      else s.setBus { s.bus with openFrame := some cs }
  | none =>
    if framing && !s.bus.afterComplete then s.setBus { s.bus with openFrame := some [b] }
    else s.setBus { s.bus with stray := s.bus.stray ++ [b] }

/-- What stands in the assembly when a complete frame comes to the checks. A frame that closes here finds its own characters
there. A row that brings a frame stands for its characters still to come: an open frame that they do not continue was closed as
truncated by their framing bit, and behind a complete frame the bus was free first, which closed the stray fragment (DESIGN
CHOICE, log entry 45). -/
def admitFrame (s : State) (f : WireFrame) : State :=
  if s.bus.complete.isSome then s
  else
    match s.bus.openFrame with
    | some cs => if cs.isPrefixOf (wireChars f) then s else rejectOne s
    | none =>
      if s.bus.afterComplete then closeStray (s.setBus { s.bus with idle := 0, idleRest := 0 }) else s

/-- A complete frame leaves the assembly for the checks; what follows it is stray until the bus is free. -/
def closeFrame (s : State) (f : WireFrame) : State :=
  let s := admitFrame s f
  s.setBus { s.bus with openFrame := none, complete := none, afterComplete := true, free := false }

/-! ### The checks of a complete frame (R25, R26) -/

/-- A complete frame that is not the node's own is rejected (R25). -/
def rejected (s : State) (f : WireFrame) : Bool :=
  match FrameKind.ofCode f.kind.toNat with
  | none => true
  | some k =>
    !crcMatches f || f.body.length != f.length.toNat || !lengthFits k f.body || decide (s.cfg.nodes ≤ sourceNode f)
      || sourceNode f == s.node.val
      || (if k.broadcast then f.destination != 255#8
          else decide (s.cfg.nodes ≤ f.destination.toNat) || f.destination.toNat == sourceNode f)

/-- Claim faults and the frames a TOWER cannot take (R26). -/
def contentFault (s : State) : Content → Bool
  | .roll r => claimFaultIn s true r.tx || claimFaultIn s false r.rx
  | .bid _ _ a | .txon _ a | .txoff _ a => claimFault s true a
  | .grant _ _ _ | .wait _ _ | .refuse _ _ => s.cfg.role == .tower
  | .free _ _ cause => cause != .release && s.cfg.role == .tower
  | .hello _ _ | .catalogue _ _ | .ask _ _ _ _ | .drop _ => false

/-- What a complete frame comes to, with its source and what the tracker needs of it (R25–R27). -/
inductive Verdict where
  | rejected
  | elsewhere (p : Node) (kind : FrameKind)
  | bad (p : Node) (kind : FrameKind)
  | good (p : Node) (c : Content)
  deriving DecidableEq, Repr

/-- The frame is addressed to the node or to all. -/
def addressedHere (s : State) (k : FrameKind) (f : WireFrame) : Bool :=
  k.broadcast || f.destination.toNat == s.node.val

/-- The verdict on a complete frame (R25, R26). -/
def verdict (s : State) (f : WireFrame) : Verdict :=
  match FrameKind.ofCode f.kind.toNat, rejected s f with
  | some k, false =>
    if h : sourceNode f < 8 then
      if !addressedHere s k f then .elsewhere ⟨sourceNode f, h⟩ k
      else
        match contentOf k f.body with
        | some c => if contentFault s c then .bad ⟨sourceNode f, h⟩ k else .good ⟨sourceNode f, h⟩ c
        | none => .bad ⟨sourceNode f, h⟩ k
    else .rejected
  | _, _ => .rejected

/-! ### The outbound queue (R32–R34) -/

/-- A frame that has not had its first attempt (R32). -/
def QueuedFrame.waiting (f : QueuedFrame) : Bool := f.attempts == 0

def QueuedFrame.isKind (f : QueuedFrame) (k : FrameKind) : Bool := f.content.kind == k

/-- The place of a new frame (R32): behind the frame in flight, and behind every waiting frame of its class or, for a normal
frame, behind every waiting frame. -/
def insertFrame (f : QueuedFrame) : List QueuedFrame → List QueuedFrame
  | [] => [f]
  | h :: t =>
    if f.content.kind.urgent && h.waiting && !h.content.kind.urgent then f :: h :: t
    else h :: insertFrame f t

/-- A waiting frame of a kind. -/
def waitingKind (k : FrameKind) (f : QueuedFrame) : Bool := f.waiting && f.isKind k

/-- A newer ROLL takes the place of the waiting one (R33). -/
def replaceRoll (f : QueuedFrame) : List QueuedFrame → List QueuedFrame
  | [] => []
  | h :: t => if waitingKind .roll h then f :: t else h :: replaceRoll f t

/-- The queue with its first waiting frame of a kind discarded. -/
def discardWaiting (k : FrameKind) : List QueuedFrame → List QueuedFrame
  | [] => []
  | h :: t => if waitingKind k h then t else h :: discardWaiting k t

/-- The queue after a frame is queued, whether it was queued (true) or discarded, and whether the queue overran (R32–R34). -/
def queueAfter (f : QueuedFrame) (q : List QueuedFrame) : List QueuedFrame × Bool × Bool :=
  if f.isKind .roll && q.any (waitingKind .roll) then (replaceRoll f q, true, false)
  else if q.length < Config.queuePlaces then (insertFrame f q, true, false)
  else if q.any (waitingKind .roll) then (insertFrame f (discardWaiting .roll q), true, true)
  else if q.any (waitingKind .catalogue) then (insertFrame f (discardWaiting .catalogue q), true, true)
  else (q, false, true)

/-- A frame queued by a block. The Bool is false when the frame was discarded under overrun, which is its not-sent report
(R34). `owned` says that the block awaits its reports. -/
def enqueue (s : State) (c : Content) (destination : Byte) (owned : Bool) : State × Bool :=
  let r := queueAfter ⟨c, destination, 0, none, owned⟩ s.bus.queue
  let s := s.setBus { s.bus with queue := r.1 }
  (if r.2.2 then (s.count .queueOverruns 1).raise .overrun else s, r.2.1)

/-- A broadcast frame queued by a block that awaits nothing of it. -/
def announce (s : State) (c : Content) : State := (enqueue s c 255#8 false).1

/-- A frame to one node queued by a block that awaits nothing of it. -/
def sendTo (s : State) (n : Node) (c : Content) : State := (enqueue s c (byte n.val) false).1

/-- The block no longer awaits the reports of its queued frames that meet `p`. -/
def disown (s : State) (p : QueuedFrame → Bool) : State :=
  s.setBus { s.bus with queue := s.bus.queue.map (fun f => if p f then { f with owned := false } else f) }

/-- A GRANT to a node for a port. -/
def isGrant (n : Node) (port : Port) (f : QueuedFrame) : Bool :=
  match f.content with
  | .grant p _ _ => p == port && f.destination == byte n.val
  | _ => false

/-- An ASK with a use. -/
def isAsk (use : Use) (f : QueuedFrame) : Bool :=
  match f.content with
  | .ask _ u _ _ => u == use
  | _ => false

/-- A CATALOGUE of the node's own is called for (R6): one is queued unless a CATALOGUE or the HELLO is still queued. -/
def callCatalogue (s : State) : State :=
  if s.bus.queue.any (fun f => f.isKind .catalogue || f.isKind .hello) then s
  else announce s (.catalogue (s.digest.getD 0) (ownDescriptors s))

/-! ### Sending (R28) -/

/-- The access gap of the head frame, in idle character times (R28). -/
def accessGap (node : Node) (f : QueuedFrame) : Nat :=
  if f.attempts > 0 then 20 + node.val
  else if f.content.kind.urgent then 2 + node.val
  else 12 + node.val

/-- The idle count when `us` more microseconds have passed on a free bus: whole character times, and the rest. -/
def idleAfter (b : Bus) (rate : BusRate) (us : Nat) : Nat × Nat :=
  (b.idle + (b.idleRest + us) / characterTime rate, (b.idleRest + us) % characterTime rate)

/-- A tick of a free bus counts in the idle count; on a busy bus the count stands (R19). -/
def countIdle (s : State) : State :=
  if s.bus.free then
    let count := idleAfter s.bus s.cfg.rate 1000
    s.setBus { s.bus with idle := count.1, idleRest := count.2 }
  else s

/-- The head of the queue can start (R28): the bus is free, and the idle count reaches the head's access gap before the
present tick ends (DESIGN CHOICE, log entry 3). -/
def attemptDue (s : State) : Bool :=
  s.running && s.bus.free && !s.bus.driving &&
    match s.bus.queue with
    | f :: _ => decide (accessGap s.node f ≤ (idleAfter s.bus s.cfg.rate 1000).1)
    | [] => false

/-- The frame an attempt drives. -/
def drivenFrame (s : State) (f : QueuedFrame) : WireFrame :=
  frameOf s.bus.epoch s.node (f.sequence.getD s.bus.sequence) f.destination f.content

/-! ### Link allowance (R37) -/

/-- A: 11 × (74 + 10 × N) bit-times in milliseconds, any fraction rounded up. -/
def linkAllowance (nodes : Nat) (rate : BusRate) : Nat :=
  (11 * (74 + 10 * nodes) * 1000 + rate.bps - 1) / rate.bps

/-- The link allowance in force, 0 before START. -/
def State.allowance (s : State) : Nat := s.bus.allowance.getD 0

/-- The contention window W (R37). -/
def State.window (s : State) : Nat := 2 * s.allowance

/-- The ROLL interval in ticks. -/
def State.interval (s : State) : Nat := s.cfg.interval.ms

end Sys2Proof.Machine
end

