-- ==== Sys2Proof/Machine/Drive.lean ====
section
/-! DEFINITION. The drive merger: the merge, settle and guard, and the relay chain (07). -/

namespace Sys2Proof.Machine

/-- One output of a word set to a level. -/
def setOutput (w : BitVec 32) (output : Nat) (level : Bool) : BitVec 32 :=
  if level then w ||| (1#32 <<< output) else w &&& ~~~(1#32 <<< output)

/-- A pattern overlaid on a word. -/
def overlay (w : BitVec 32) (p : Pattern) : BitVec 32 := p.foldl (fun w e => setOutput w e.1 e.2) w

/-- The band pattern in force: that of the decoded band at a POSITION, none on band NONE (R140). -/
def bandInForce (s : State) : Pattern :=
  if s.cfg.role = .tower ∨ s.band.decoded = 0 then [] else s.cfg.bandPatterns[s.band.decoded]

/-- The antenna pattern of a port in force: that of a configured port with a holder entry (R140). -/
def portInForce (s : State) (p : Port) : Pattern :=
  match s.cfg.antennas[p] with
  | some c => if (s.port p).holders.isEmpty then [] else c.pattern
  | none => []

/-- The drive word the merge asks for (R140): all 0 in SETUP, else the rest levels overlaid by the patterns in force. -/
def mergedWord (s : State) : BitVec 32 :=
  if s.mode = .setup then 0
  else allPorts.foldl (fun w p => overlay w (portInForce s p)) (overlay s.cfg.rest (bandInForce s))

/-- The outputs 0 to 31. -/
def allOutputs : List (Fin 32) := List.ofFn id

/-- The outputs whose level differs between two words (R141). -/
def changedOutputs (a b : BitVec 32) : List (Fin 32) :=
  allOutputs.filter (fun o => a.getLsbD o.val != b.getLsbD o.val)

/-- The time one changed output takes to finish moving: operate and bounce when it goes on, release when it goes off
(R142). -/
def contribution (cfg : Store) (word : BitVec 32) (o : Fin 32) : Nat :=
  let c := cfg.relayClasses[cfg.outputClass[o]]
  if word.getLsbD o.val then c.operate + c.bounce else c.release

/-- The settle of a change to `word`: the largest contribution among its changed outputs (R142). -/
def settleOf (cfg : Store) (word : BitVec 32) (changed : List (Fin 32)) : Nat :=
  changed.foldl (fun m o => max m (contribution cfg word o)) 0

/-- An end moved by a guard: the later of its present value and the change tick plus the guard (R143). -/
def extendEnd (stop : Option Tick) (now : Tick) (guardTime : Nat) : Option Tick :=
  laterEnd stop (some (after now guardTime))

/-- A change goes to the held-over end while the sequencer is in STEP_UP, TRANSMIT or STEP_DOWN (R143). -/
def heldOver (k : KeyState) : Bool :=
  match k with
  | .stepUp | .transmit | .stepDown => true
  | .receive | .keyWait | .lockout => false

/-- The merger after a recompute to a word (R141–R143, R148): nothing moves when no output changes. -/
def recomputed (s : State) (word : BitVec 32) : Drive :=
  let changed := changedOutputs s.drv.word word
  if changed.isEmpty then s.drv
  else
    let settle := settleOf s.cfg word changed
    let guardTime := settle + s.cfg.margin
    let hold := heldOver s.key.state && !s.isTower
    { s.drv with
      word := word
      localEnd := if hold then s.drv.localEnd else extendEnd s.drv.localEnd s.now guardTime
      heldEnd := if hold then extendEnd s.drv.heldEnd s.now guardTime else s.drv.heldEnd
      lastChange := some ⟨s.now, changed.length, settle, guardTime⟩
      shift := some word }

/-- The drive word formed anew (R141). -/
def recompute (s : State) : State := s.setDrv (recomputed s (mergedWord s))

/-- The settle value reported for a GRANT (R145): 0 when the recompute changed no output, else the guard time still to run
at the later of the two ends. -/
def reportedSettle (before after_ : State) : Nat :=
  if before.drv.word = after_.drv.word then 0
  else max (remaining after_.drv.localEnd after_.now) (remaining after_.drv.heldEnd after_.now)

/-- The local end after a fold (R144): the later of the two ends. A held-over end that is none or has passed leaves the local
end as it is. -/
def foldedEnd (d : Drive) (now : Tick) : Option Tick :=
  if passed d.heldEnd now then d.localEnd else laterEnd d.localEnd d.heldEnd

/-- The held-over end folded into the local end on entry to RECEIVE or LOCKOUT (R144). -/
def foldGuards (s : State) : State :=
  s.setDrv { s.drv with localEnd := foldedEnd s.drv s.now, heldEnd := none }

/-! ### The relay chain (R148) -/

/-- A pulse of the chain's pins: a rising edge of RCLK with RDAT at a level (high is true), or a pulse of RLATCH. -/
inductive ChainPulse where
  | clock (rdat : Bool)
  | latch
  deriving DecidableEq, Repr

/-- The chain outside the node: its shift registers, output 0 where the last level taken stands, and its drivers. -/
structure Chain where
  register : BitVec 32
  drivers  : BitVec 32
  deriving DecidableEq, Repr

/-- The levels of a word on RDAT, output 31 first and output 0 last. -/
def rdatLevels (word : BitVec 32) : List Bool := (List.range 32).map (fun k => word.getLsbD (31 - k))

/-- The pulses of one shift and its latch: RLATCH comes after the 32nd rising edge of RCLK. -/
def chainPulses (word : BitVec 32) : List ChainPulse := (rdatLevels word).map ChainPulse.clock ++ [.latch]

/-- What one pulse does to the chain. -/
def Chain.take (c : Chain) : ChainPulse → Chain
  | .clock rdat => { c with register := c.register.shiftConcat rdat }
  | .latch => { c with drivers := c.register }

/-- What pulses, first to last, do to the chain. -/
def Chain.run (c : Chain) (pulses : List ChainPulse) : Chain := pulses.foldl Chain.take c

/-- What the drivers hold after a word has been shifted and latched. The registers hold the word latched before, of which
nothing is left after 32 levels. -/
def latchedBy (drivers word : BitVec 32) : BitVec 32 := (Chain.run ⟨drivers, drivers⟩ (chainPulses word)).drivers

end Sys2Proof.Machine
end

