-- ==== Sys2Proof/Machine/Flags.lean ====
section
/-! DEFINITION. Levels, change flags and the outputs that follow from the records: the claim view's questions (03), coupled
protection (R64), the notice levels (R171) and ALERT (R174). -/

namespace Sys2Proof.Machine

/-! ### Questions to the claim view (section 3.8) -/

/-- A record's claims count: CURRENT, STALE or SILENT (R40). -/
def Peer.counts (r : Peer) : Bool :=
  match r.state with
  | .current | .stale | .silent => true
  | .absent | .gone => false

/-- A peer holds the band token of a band (R61). -/
def holdsBand (s : State) (p : Node) (b : Band) : Bool :=
  (s.peer p).counts && (s.peer p).bandToken != .free && (s.peer p).tokenBand == b

/-- A peer holds the signal token (R61). -/
def holdsSignal (s : State) (p : Node) : Bool := (s.peer p).counts && (s.peer p).signalToken != .free

/-- A peer's class as a holder: that of its ROLL part, AUX where that is absent (R61). -/
def classOf (s : State) (p : Node) : Class :=
  match (s.peer p).roll with
  | some r => r.cls
  | none => .aux

/-- A peer is known to be keyed on an antenna (R62). -/
def peerKeyedOn (s : State) (p : Node) (a : Antenna) : Bool :=
  (s.peer p).counts &&
    match (s.peer p).keyed with
    | some k => k.antenna == some a
    | none => false

/-- A peer's listening antenna by its ROLL part: its RX antenna, or its TX antenna when it follows (R63). -/
def peerListens (r : Peer) : Option Antenna :=
  match r.roll with
  | some l => if l.follow then l.tx else l.rx
  | none => none

/-- The peers listening on an antenna of a non-zero coupling group (R63). -/
def coupledListeners (s : State) (g : Nat) : List Node :=
  (peersOf s).filter fun p =>
    (s.peer p).counts && g != 0 &&
      match peerListens (s.peer p) with
      | some a => couplingOf s a == g
      | none => false

/-- The node's listening antenna (R64, R93). -/
def listeningAntenna (s : State) : Option Antenna :=
  if s.sel.rx.state = .granted then s.sel.rx.antenna
  else if s.sel.rx.choice = some Config.follow ∧ s.sel.tx.state = .granted then s.sel.tx.antenna
  else none

/-- A peer is known to be transmitting, or bidding, on an antenna of a group (R64). -/
def transmitsInGroup (s : State) (g : Nat) (p : Node) : Bool :=
  ((s.peer p).counts &&
    match (s.peer p).keyed with
    | some ⟨_, some a⟩ => couplingOf s a == g
    | _ => false) ||
  match s.bids[p] with
  | some b => couplingOf s b.antenna == g
  | none => false

/-- Coupled protection (R64, R166). -/
def coupled (s : State) : Bool :=
  match listeningAntenna s with
  | none => false
  | some a => couplingOf s a != 0 && (peersOf s).any (transmitsInGroup s (couplingOf s a))

/-- PROTECT: the step flag or coupled protection, held off at a TOWER (R167, R169). -/
def protectNow (s : State) : Bool := !s.isTower && (s.key.stepProtect || coupled s)

/-! ### Levels (R171) -/

/-- At least one peer record in a state. -/
def anyPeer (s : State) (st : PeerState) : Bool := (peersOf s).any (fun p => (s.peer p).state == st)

/-- The RULES level (R54). -/
def rulesLevel (s : State) : Bool :=
  (peersOf s).any fun p =>
    (s.peer p).mismatch && ((s.peer p).state == .current || (s.peer p).state == .stale)

/-- The selection levels are evaluated from START on in the POSITION role (R93). -/
def evaluatesSelections (s : State) : Bool := s.mode != .setup && s.cfg.role == .position

def selTxLevel (s : State) : Bool := evaluatesSelections s && s.sel.tx.state != .granted

def selRxLevel (s : State) : Bool :=
  evaluatesSelections s && s.sel.rx.state != .granted && s.sel.rx.choice != some Config.follow

/-- The seven levels as the records stand, in the order of their numbers (R171). -/
def levelsNow (s : State) : BitVec 7 :=
  BitVec.ofNat 7 (flag s.tracker.isolated + 2 * flag (anyPeer s .stale) + 4 * flag (anyPeer s .silent)
    + 8 * flag (anyPeer s .gone) + 16 * flag (rulesLevel s) + 32 * flag (selTxLevel s) + 64 * flag (selRxLevel s))

/-- ALERT (R174). -/
def alertOf (r : Reporting) : Bool := r.enabled && (r.flags &&& r.mask) != 0

/-- ALERT re-evaluated (R174). -/
def evalAlert (s : State) : State := s.setRep { s.rep with alert := alertOf s.rep }

/-- The levels re-evaluated: a level that changes sets its change flag, and ALERT follows (R171, R174). -/
def evalLevels (s : State) : State :=
  evalAlert (s.setRep { s.rep with
    levels := levelsNow s
    flags := s.rep.flags ||| (s.rep.levels ^^^ levelsNow s).zeroExtend 12 })

/-- The outputs that follow from the records after a command: PROTECT, the levels, the flags and ALERT. -/
def evalOutputs (s : State) : State := evalLevels (s.setKey { s.key with protect := protectNow s })

end Sys2Proof.Machine
end

