-- ==== Sys2Proof/Machine/Answers.lean ====
section
/-! DEFINITION. How the selection unit takes what a home tells it: GRANT, WAIT, REFUSE, FREE, and the loss of a home
(05, section 5.6 and 5.8). -/

namespace Sys2Proof.Machine

/-- A record names an antenna. -/
def Selection.names (r : Selection) (a : Antenna) : Bool := r.antenna == some a

/-- A record's antenna is homed at a node. -/
def Selection.homedAt (r : Selection) (h : Node) : Bool :=
  match r.antenna with
  | some a => homeOf a == h
  | none => false

/-- The record that takes a GRANT (R102), none when its state does not. -/
def grantedRecord (r : Selection) (now : Tick) (settle : Nat) : Option Selection :=
  match r.state with
  | .asking | .waiting | .reask =>
    some { r with state := .granted, place := none, deadline := none, guardEnd := some (after now settle) }
  | .granted => some { r with guardEnd := laterEnd r.guardEnd (some (after now settle)) }
  | .empty | .failed => none

/-- A GRANT for an antenna and a use (R102). The Bool is false when no record takes it (R103). -/
def takeGrant (s : State) (a : Antenna) (use : Use) (settle : Nat) : State × Bool :=
  let r := s.selection (recordFor use)
  match grantedRecord r s.now settle with
  | some r' => if r.names a then (s.setSelection (recordFor use) r', true) else (s, false)
  | none => (s, false)

/-- A record that takes a WAIT (R104). -/
def waitingRecord (r : Selection) (a : Antenna) (place : Nat) : Selection :=
  match r.state with
  | .asking | .waiting | .reask =>
    if r.names a then { r with state := .waiting, place := some place, deadline := none } else r
  | .empty | .granted | .failed => r

/-- A WAIT for an antenna: each record that names it takes it (R104). -/
def takeWait (s : State) (a : Antenna) (place : Nat) : State :=
  s.setSel { s.sel with tx := waitingRecord s.sel.tx a place, rx := waitingRecord s.sel.rx a place }

/-- A record FAILED with a reason; it keeps its choice and its antenna. -/
def Selection.fail (r : Selection) (why : FailReason) : Selection :=
  { r with state := .failed, reason := some why, place := none, deadline := none, guardEnd := none }

/-- A record that takes a REFUSE (R105). -/
def refusedRecord (r : Selection) (a : Antenna) (reason : RefuseReason) : Selection :=
  match r.state with
  | .asking | .waiting => if r.names a then r.fail (.refusedByHome reason) else r
  | .reask => if r.names a && reason != .starting then r.fail (.refusedByHome reason) else r
  | .empty | .granted | .failed => r

/-- A REFUSE for an antenna: each record that names it takes it (R105). -/
def takeRefuse (s : State) (a : Antenna) (reason : RefuseReason) : State :=
  s.setSel { s.sel with tx := refusedRecord s.sel.tx a reason, rx := refusedRecord s.sel.rx a reason }

/-- The reason a FREE from a home leaves (R106). -/
def lossReason : FreeCause → FailReason
  | .revoke => .revoked
  | .release | .reconcile | .notYours => .lost

/-- A FREE from a home for a GRANTED record (R106); any other record stays as it is here. -/
def takeLoss (s : State) (a : Antenna) (use : Use) (cause : FreeCause) : State :=
  let r := s.selection (recordFor use)
  if r.state = .granted ∧ r.names a then s.setSelection (recordFor use) (r.fail (lossReason cause)) else s

/-- A record whose home has restarted (R109). -/
def reaskRecord (r : Selection) (h : Node) : Selection :=
  match r.state with
  | .asking | .waiting | .granted =>
    if r.homedAt h then { r with state := .reask, place := none, deadline := none, guardEnd := none } else r
  | .empty | .reask | .failed => r

/-- A HELLO or an epoch jump of a home reaches the selection unit (R109). -/
def homeRestarted (s : State) (h : Node) : State :=
  s.setSel { s.sel with tx := reaskRecord s.sel.tx h, rx := reaskRecord s.sel.rx h }

/-- A record whose home is GONE (R110). -/
def goneRecord (r : Selection) (h : Node) : Selection :=
  match r.state with
  | .asking | .waiting | .reask | .granted => if r.homedAt h then r.fail .homeGone else r
  | .empty | .failed => r

/-- The GONE event of a home reaches the selection unit (R110). -/
def homeGone (s : State) (h : Node) : State :=
  s.setSel { s.sel with tx := goneRecord s.sel.tx h, rx := goneRecord s.sel.rx h }

end Sys2Proof.Machine
end

