-- ==== Sys2Proof/Machine/Arbiter.lean ====
section
/-! DEFINITION. The antenna arbiter: port records, asks, frees, the re-offer, deferred actions, reconciliation and the loss of
a peer (04). -/

namespace Sys2Proof.Machine

/-! ### Questions -/

/-- The descriptor of an own port, none when it is not configured. -/
def ownDescriptor (s : State) (p : Port) : Option Descriptor := (s.cfg.antennas[p]).map AntennaConfig.descriptor

/-- The feedline group of an own port, 0 for a feedline of its own (R3). -/
def feedlineOf (s : State) (p : Port) : Nat :=
  match ownDescriptor s p with
  | some d => d.feedline
  | none => 0

/-- The other port of the same non-zero feedline group has a holder (R70). -/
def feedlineTaken (s : State) (p : Port) : Bool :=
  feedlineOf s p != 0 &&
    allPorts.any (fun q => q != p && feedlineOf s q == feedlineOf s p && !(s.port q).holders.isEmpty)

/-- A port is grantable now for a set of uses (R70). -/
def grantable (s : State) (p : Port) (uses : Uses) : Bool :=
  match ownDescriptor s p with
  | none => false
  | some d =>
    !(s.port p).disabled && decide ((s.port p).holders.length < d.share) && !(uses.tx && d.kind == .rx)
      && !feedlineTaken s p

/-- A node is known keyed on a port (R79): a peer by the claim view, the node itself by its token state and TX selection. -/
def knownKeyed (s : State) (n : Node) (p : Port) : Bool :=
  if n = s.node then s.tok.state == .keyed && s.sel.tx.antenna == some (antennaAt s.node p)
  else peerKeyedOn s n (antennaAt s.node p)

def holderOf (s : State) (n : Node) (p : Port) : Option Holder := (s.port p).holders.find? (fun h => h.node == n)

def waiterOf (s : State) (n : Node) (p : Port) : Option Waiter := (s.port p).waits.find? (fun w => w.node == n)

/-- A holder is known keyed on a port. -/
def keyedHolder (s : State) (p : Port) : Bool := (s.port p).holders.any (fun h => knownKeyed s h.node p)

/-! ### Answers (R71, R91) -/

/-- A WAIT to a node, or to the own selection unit. -/
def answerWait (s : State) (n : Node) (p : Port) (place : Nat) : State :=
  if n = s.node then takeWait s (antennaAt s.node p) place else sendTo s n (.wait p place)

/-- A REFUSE to a node, or to the own selection unit. -/
def answerRefuse (s : State) (n : Node) (p : Port) (reason : RefuseReason) : State :=
  if n = s.node then takeRefuse s (antennaAt s.node p) reason else sendTo s n (.refuse p reason)

/-- A FREE with a cause of the home's to a node, or to the own selection unit. -/
def answerFree (s : State) (n : Node) (p : Port) (use : Use) (cause : FreeCause) : State :=
  if n = s.node then takeLoss s (antennaAt s.node p) use cause else sendTo s n (.free p use cause)

/-- One FREE for each use of an entry, TX before LISTEN (DESIGN CHOICE, log entry 38). -/
def answerFrees (s : State) (n : Node) (p : Port) (uses : Uses) (cause : FreeCause) : State :=
  uses.toList.foldl (fun s use => answerFree s n p use cause) s

/-! ### Holder entries (R68) -/

def mapHolder (hs : List Holder) (n : Node) (f : Holder → Holder) : List Holder :=
  hs.map (fun h => if h.node = n then f h else h)

def updateHolder (s : State) (n : Node) (p : Port) (f : Holder → Holder) : State :=
  s.setPort p { s.port p with holders := mapHolder (s.port p).holders n f }

/-- A holder entry removed. With the last holder go the deferrals that waited for it (R77, R85), and GRANTs still queued for
the entry are no longer its own (R68). -/
def removeHolder (s : State) (n : Node) (p : Port) : State :=
  let r := s.port p
  let hs := r.holders.filter (fun h => h.node != n)
  disown (s.setPort p { r with
      holders := hs
      revokePending := r.revokePending && !hs.isEmpty
      releasePending := if hs.isEmpty then Uses.empty else r.releasePending })
    (isGrant n p)

/-- A use taken from a holder entry, and the entry removed, with a recompute, when it has none left (R76). The Bool says
whether the entry was removed. -/
def dropUse (s : State) (n : Node) (p : Port) (use : Use) : State × Bool :=
  match holderOf s n p with
  | none => (s, false)
  | some h =>
    if !h.uses.has use then (s, false)
    else if (h.uses.remove use).isEmpty then (recompute (removeHolder s n p), true)
    else (updateHolder s n p (fun h => { h with uses := h.uses.remove use }), false)

/-- A GRANT for one use of an entry: queued to the node, which sets the grant-out flag (R68), or given to the own selection
unit. A GRANT the own unit does not want is freed at once (R103). -/
def giveGrant (s : State) (n : Node) (p : Port) (use : Use) (settle : Nat) : State :=
  if n = s.node then
    let r := takeGrant s (antennaAt s.node p) use settle
    if r.2 then r.1 else (dropUse r.1 n p use).1
  else
    let r := enqueue s (.grant p use settle) (byte n.val) true
    if r.2 then updateHolder r.1 n p (fun h => { h with grantOut := true }) else r.1

/-- A holder entry made for a node, the drive word recomputed, and one GRANT for each use queued with the settle the merger
reports (R74, R78), TX before LISTEN (DESIGN CHOICE, log entry 38). -/
def makeHolder (s : State) (n : Node) (p : Port) (uses : Uses) : State :=
  let r := s.port p
  let held := s.setPort p { r with holders := r.holders ++ [⟨n, uses, n == s.node, false, 0⟩] }
  let driven := recompute held
  uses.toList.foldl (fun s' use => giveGrant s' n p use (reportedSettle held driven)) driven

/-! ### The re-offer (R78) -/

/-- The ports whose waiters a re-offer considers: the freed port's feedline group, or the port alone in group 0. -/
def offeredPorts (s : State) (p : Port) : List Port :=
  if feedlineOf s p = 0 then [p] else allPorts.filter (fun q => feedlineOf s q == feedlineOf s p)

/-- The age of a wait entry: the counter less its arrival number, modulo 65 536 (R69). -/
def age (s : State) (w : Waiter) : Nat := (s.arb.arrivals - w.arrival).toNat

/-- The first waiter comes before the second: lower class, or the same class and a greater age (R78). -/
def betterWaiter (s : State) (a b : Port × Waiter) : Bool :=
  decide (a.2.cls.number < b.2.cls.number ∨ (a.2.cls.number = b.2.cls.number ∧ age s b.2 < age s a.2))

/-- The considered waiters whose port is grantable now for their uses. -/
def candidates (s : State) (ports : List Port) : List (Port × Waiter) :=
  ports.flatMap fun q => ((s.port q).waits.filter (fun w => grantable s q w.uses)).map (fun w => (q, w))

/-- The best of the candidates, none when there is none. Of two with the same class and the same age the earlier one of the
list stays: the lower port (DESIGN CHOICE, log entry 37). -/
def bestWaiter (s : State) : List (Port × Waiter) → Option (Port × Waiter)
  | [] => none
  | c :: cs =>
    match bestWaiter s cs with
    | none => some c
    | some d => if betterWaiter s d c then some d else some c

/-- A wait entry removed. -/
def removeWaiter (s : State) (n : Node) (p : Port) : State :=
  s.setPort p { s.port p with waits := (s.port p).waits.filter (fun w => w.node != n) }

/-- The search of a re-offer, repeated while a waiter is grantable; each turn takes one wait entry away, so as many turns as
there are entries suffice. -/
def offer (ports : List Port) : Nat → State → State
  | 0, s => s
  | n + 1, s =>
    match bestWaiter s (candidates s ports) with
    | none => s
    | some (q, w) => offer ports n (makeHolder (removeWaiter s w.node q) w.node q w.uses)

/-- The wait entries on some ports. -/
def waitCount (s : State) (ports : List Port) : Nat := (ports.map (fun q => (s.port q).waits.length)).sum

/-- The freed capacity of a port re-offered (R78). -/
def reoffer (s : State) (p : Port) : State :=
  offer (offeredPorts s p) (waitCount s (offeredPorts s p)) s

/-- The ports that have lost a holder since `before`, in port order. -/
def freedPorts (before s : State) : List Port :=
  allPorts.filter (fun p => decide ((s.port p).holders.length < (before.port p).holders.length))

/-- The ports that have lost a holder since `before` re-offered, in port order. It runs behind the removals of an event, so
that the event's FREEs stand before the GRANTs of its re-offers (R78, R91). That one event re-offers several ports in port
order, and what counts as its FREEs, are DESIGN CHOICES (log entries 19 and 49). -/
def reofferFreed (before s : State) : State := (freedPorts before s).foldl reoffer s

/-! ### Asks (R71–R75) -/

/-- The place of a new wait entry: after every entry of the same or a better class (R69). -/
def insertWaiter (w : Waiter) : List Waiter → List Waiter
  | [] => [w]
  | h :: t => if w.cls.number < h.cls.number then w :: h :: t else h :: insertWaiter w t

/-- The place of a node in a wait list, counting from 1 (R69). -/
def placeOf (ws : List Waiter) (n : Node) : Nat := ws.findIdx (fun w => w.node == n) + 1

/-- An ASK from a holder is granted again with settle 0 (R72). -/
def regrant (s : State) (n : Node) (p : Port) (use : Use) : State :=
  let s := updateHolder s n p (fun h => { h with uses := h.uses.add use })
  let s := s.setPort p { s.port p with releasePending := (s.port p).releasePending.remove use }
  giveGrant s n p use 0

/-- An ASK from a waiter is told its place again (R73). -/
def rewait (s : State) (n : Node) (p : Port) (use : Use) : State :=
  let r := s.port p
  let ws := r.waits.map (fun w => if w.node = n then { w with uses := w.uses.add use } else w)
  answerWait (s.setPort p { r with waits := ws }) n p (placeOf ws n)

/-- A new wait entry with the next arrival number (R75, R69). -/
def makeWaiter (s : State) (n : Node) (p : Port) (use : Use) (cls : Class) : State :=
  let ws := insertWaiter ⟨n, Uses.of use, cls, s.arb.arrivals⟩ (s.port p).waits
  let s := s.setPort p { s.port p with waits := ws }
  answerWait (s.setArb { s.arb with arrivals := s.arb.arrivals + 1 }) n p (placeOf ws n)

/-- An ASK that is grantable now (R74). A grant the own selection unit gave back at once is re-offered (R103, R78). -/
def grantAsk (s : State) (n : Node) (p : Port) (use : Use) : State :=
  let s := makeHolder s n p (Uses.of use)
  if (holderOf s n p).isNone then reoffer s p else s

/-- The first test of R71 that refuses an ASK, none when it is judged further. -/
def askRefusal (s : State) (p : Port) (use : Use) (b : Band) : Option RefuseReason :=
  if s.mode != .active || s.host.restartHeld then some .starting
  else
    match ownDescriptor s p with
    | none => some .noPort
    | some d =>
      if (s.port p).disabled then some .disabled
      else if !d.serves b then some .wrongBand
      else if use = .tx ∧ d.kind = .rx then some .wrongUse
      else none

/-- An ASK judged by the tests of R71, in their order. -/
def judgeAsk (s : State) (n : Node) (p : Port) (use : Use) (b : Band) (cls : Class) : State :=
  match askRefusal s p use b with
  | some reason => answerRefuse s n p reason
  | none =>
    if (holderOf s n p).isSome then regrant s n p use
    else if (waiterOf s n p).isSome then rewait s n p use
    else if grantable s p (Uses.of use) then grantAsk s n p use
    else makeWaiter s n p use cls

/-! ### Frees (R76, R77) -/

/-- A use taken from a wait entry, and the entry removed when it has none left (R76). -/
def dropWaitUse (s : State) (n : Node) (p : Port) (use : Use) : State :=
  let ws := (s.port p).waits.map (fun w => if w.node = n then { w with uses := w.uses.remove use } else w)
  s.setPort p { s.port p with waits := ws.filter (fun w => !(w.node == n && w.uses.isEmpty)) }

/-- A FREE(port, use, release) from a node (R76), deferred while it is known keyed on the port (R77). The re-offer is
reofferFreed's, behind the FREEs of the event (R78; log entry 49). -/
def judgeFree (s : State) (n : Node) (p : Port) (use : Use) : State :=
  match holderOf s n p with
  | some h =>
    if knownKeyed s n p then
      if h.uses.has use then s.setPort p { s.port p with releasePending := (s.port p).releasePending.add use } else s
    else (dropUse s n p use).1
  | none => if (waiterOf s n p).isSome then dropWaitUse s n p use else s

/-! ### Deferred actions (R79) -/

/-- A port waits for its holder to unkey. -/
def deferred (s : State) (p : Port) : Bool := (s.port p).revokePending || !(s.port p).releasePending.isEmpty

/-- A pending revocation carried out: each entry removed, with one FREE(revoke) for each of its uses. The re-offer is
reofferFreed's. -/
def revokeAll (s : State) (p : Port) : State :=
  let s' := (s.port p).holders.foldl (fun s h => answerFrees (removeHolder s h.node p) h.node p h.uses .revoke) s
  recompute (s'.setPort p { s'.port p with revokePending := false, releasePending := Uses.empty })

/-- A pending release carried out: the pending uses removed, with no frame sent. The re-offer is reofferFreed's. -/
def releaseAll (s : State) (p : Port) : State :=
  let uses := (s.port p).releasePending
  let s' := s.setPort p { s.port p with releasePending := Uses.empty }
  (s'.port p).holders.foldl (fun s h => uses.toList.foldl (fun s use => (dropUse s h.node p use).1) s) s'

/-- The deferred action of one port, when its holder is no longer known keyed (R79). -/
def carryOutAt (s : State) (p : Port) : State :=
  if deferred s p && !keyedHolder s p then (if (s.port p).revokePending then revokeAll s p else releaseAll s p) else s

/-- The removals of every deferred action whose holder is no longer known keyed, in port order (R79). -/
def endDeferrals (s : State) : State := allPorts.foldl carryOutAt s

/-- Every deferred action whose holder is no longer known keyed, and the re-offers that follow (R79, R78). -/
def carryOutDeferred (s : State) : State := reofferFreed s (endDeferrals s)

/-! ### Disable (R80) -/

/-- Each waiter of a port refused with DISABLED, in list order. -/
def refuseWaiters (s : State) (p : Port) : State :=
  let ws := (s.port p).waits
  ws.foldl (fun s w => answerRefuse s w.node p .disabled) (s.setPort p { s.port p with waits := [] })

/-- Each holder removed with its FREEs, or left with the revocation pending when it is known keyed. -/
def revokeHolders (s : State) (p : Port) : State :=
  (s.port p).holders.foldl
    (fun s h =>
      if knownKeyed s h.node p then s.setPort p { s.port p with revokePending := true }
      else answerFrees (removeHolder s h.node p) h.node p h.uses .revoke) s

/-- A port disabled (R80, steps 1 to 4). -/
def disablePort (s : State) (p : Port) : State :=
  let s1 := refuseWaiters (s.setPort p { s.port p with disabled := true }) p
  let s2 := revokeHolders s1 p
  if (s2.port p).holders.length < (s1.port p).holders.length then reoffer (recompute s2) p else s2

/-! ### Reconciliation (R82–R84) -/

/-- A ROLL lists an antenna: one of its two antenna fields names it. -/
def Roll.lists (r : Roll) (a : Antenna) : Bool := r.tx == some a || r.rx == some a

/-- The arbiter reconciles while ACTIVE with no RESTART held (R82, R90). -/
def reconciles (s : State) : Bool := s.mode == .active && !s.host.restartHeld

/-- A grant released by reconciliation (R83). The re-offer is reofferFreed's. -/
def releaseOrphan (s : State) (n : Node) (p : Port) (h : Holder) (sequence : Byte) : State :=
  let s := answerFrees (removeHolder s n p) n p h.uses .reconcile
  recompute (s.recordFault n .orphanGrant .roll sequence)

/-- One port of a peer looked at by its ROLL (R82). -/
def reconcilePort (n : Node) (r : Roll) (sequence : Byte) (s : State) (p : Port) : State :=
  match holderOf s n p with
  | none => s
  | some h =>
    if knownKeyed s n p then s
    else if r.lists (antennaAt s.node p) then
      updateHolder s n p (fun h => { h with confirmed := true, missed := 0 })
    else if h.confirmed then releaseOrphan s n p h sequence
    else if h.grantOut then s
    else if h.missed + 1 < 2 then updateHolder s n p (fun h => { h with missed := h.missed + 1 })
    else releaseOrphan s n p h sequence

/-- The ports a node holds, in port order. R85 names that order; that one ROLL reconciles in it too is a DESIGN CHOICE (log
entry 19). -/
def heldPorts (s : State) (n : Node) : List Port := allPorts.filter (fun p => (holderOf s n p).isSome)

/-- A peer's grants reconciled with its ROLL (R82): the ports it held when the ROLL came, in port order (DESIGN CHOICE, log
entry 19). -/
def reconcile (s : State) (n : Node) (r : Roll) (sequence : Byte) : State :=
  (heldPorts s n).foldl (reconcilePort n r sequence) s

/-- One antenna field of a ROLL that claims a port the peer does not hold (R84). -/
def answerClaim (s : State) (n : Node) (field : Option Antenna) (use : Use) : State :=
  match field with
  | none => s
  | some a =>
    if homeOf a = s.node ∧ (holderOf s n (portOf a)).isNone then sendTo s n (.free (portOf a) use .notYours) else s

/-- Claims the node did not grant, answered with FREE(not-yours) (R84), for the TX antenna field before the RX antenna field
(DESIGN CHOICE, log entry 47). -/
def answerClaims (s : State) (n : Node) (r : Roll) : State :=
  answerClaim (answerClaim s n r.tx .tx) n r.rx .listen

/-! ### Peers that leave and return (R85, R86) -/

/-- Every wait entry of a peer removed. -/
def removeWaits (s : State) (n : Node) : State := allPorts.foldl (fun s p => removeWaiter s n p) s

/-- Every holder and wait entry of a peer released with no FREE: one recompute, then a re-offer of each port that lost a
holder (R85, R86). -/
def releasePeer (s : State) (n : Node) : State :=
  let lost := heldPorts s n
  let s := removeWaits (lost.foldl (fun s p => removeHolder s n p) s) n
  if lost.isEmpty then s else lost.foldl reoffer (recompute s)

/-! ### Busy map and port state (R67, R88) -/

/-- The busy map (R88). -/
def busyMap (s : State) : BitVec 16 :=
  allPorts.foldl (fun m p =>
    if (s.cfg.antennas[p]).isSome && !(s.port p).holders.isEmpty then m ||| (1#16 <<< p.val) else m) 0#16

/-- The port state as STATUS shows it: FREE 0, HELD 1, DISABLED 2 (R67, log entry 16). -/
def portState (s : State) (p : Port) : Nat :=
  if (s.port p).disabled then 2 else if (s.port p).holders.isEmpty then 0 else 1

/-- The grant-out flag after the bus controller has reported a GRANT: set while another GRANT of the entry is still queued
(R68). -/
def grantReported (s : State) (n : Node) (p : Port) : State :=
  updateHolder s n p (fun h => { h with grantOut := s.bus.queue.any (fun f => f.owned && isGrant n p f) })

end Sys2Proof.Machine
end

