-- ==== Sys2Proof/Machine/Tokens.lean ====
section
/-! DEFINITION. The token unit: the own token record, the window count, bid records and the governor (06). What the sequencer
does with its reports is in Keying. -/

namespace Sys2Proof.Machine

/-! ### The window count (R118) -/

/-- A peer's bid record is for a band and of a better rank than the node's own. -/
def betterBid (s : State) (p : Node) (band : Option Band) : Bool :=
  match s.bids[p] with
  | some b => (band.isNone || band == some b.band) && betterRank b.cls p s.cfg.cls s.node
  | none => false

/-- The band count (R118): each peer that holds the band token or bids for the band with a better rank. -/
def bandCount (s : State) (b : Band) : Nat :=
  ((peersOf s).filter (fun p => holdsBand s p b || betterBid s p (some b))).length

/-- The signal count (R118). -/
def signalCount (s : State) : Nat :=
  ((peersOf s).filter (fun p => holdsSignal s p || betterBid s p none)).length

/-- The bid wins the window count (R118). -/
def countWins (s : State) (b : Band) : Bool :=
  decide (bandCount s b < s.cfg.bandLimit[b] ∧ signalCount s < s.cfg.signalLimit)

/-! ### The governor (R134, R135) -/

/-- The governor's check fails for the decoded band (R134). -/
def governorFails (s : State) : Bool :=
  match s.gov.lastBand with
  | none => false
  | some b =>
    b != s.band.decoded &&
      ((match s.gov.lastChange with
        | some t => decide (0 < s.cfg.dwell ∧ (s.now - t).toNat < s.cfg.dwell * 60000)
        | none => false)
      || decide (0 < s.cfg.hourLimit ∧ s.cfg.hourLimit ≤ s.gov.changes))

/-- The governor's check with its notice and its counter (R134). The Bool says that the keydown is refused. -/
def governorCheck (s : State) : State × Bool :=
  match s.cfg.govMode with
  | .off => (s, false)
  | .warn => if governorFails s then ((s.raise .governor).count .governorWarnings 1, false) else (s, false)
  | .enforce => if governorFails s then (s.raise .governor, true) else (s, false)

/-- The governor commits when a TXON is queued (R135). -/
def governorCommit (s : State) (b : Band) : State :=
  let changed := s.gov.lastBand.isSome && s.gov.lastBand != some b
  let s' := s.setGov
    { s.gov with
      lastBand := some b
      lastChange := if changed then some s.now else s.gov.lastChange
      changes := if changed then min (s.gov.changes + 1) Config.smallTop else s.gov.changes }
  if changed then s'.count .bandChanges 1 else s'

/-! ### The own token record (R113) -/

/-- The BID frames the token unit awaited are awaited no more. -/
def disownBids (s : State) : State := disown s (fun f => f.isKind .bid)

/-- The record FREE, with nothing awaited (R113). -/
def freeTokens (s : State) : State := disownBids (s.setTok Tokens.reset)

/-- The record FREE and a DROP carrying the token band queued (R126–R128, R130). -/
def dropTokens (s : State) : State :=
  match s.tok.band with
  | some b => announce (freeTokens s) (.drop b)
  | none => freeTokens s

/-- A bid (R116): the record BIDDING with the decoded band and the antenna, and a BID queued as the awaited BID. The Bool is
false when the BID was discarded under overrun. -/
def queueBid (s : State) (a : Antenna) : State × Bool :=
  let s := disownBids s
  let s := s.setTok ⟨.bidding, some s.band.decoded, some a, true, none, none⟩
  enqueue s (.bid s.band.decoded s.cfg.cls a) 255#8 true

/-- The record KEYED on a band with an antenna, a TXON queued and the governor's commit (R123, R135). The Bool is false when
the TXON was discarded under overrun. -/
def keyTokens (s : State) (b : Band) (a : Antenna) : State × Bool :=
  let s := disown (freeTokens s) (fun f => f.isKind .txon)
  let s := s.setTok ⟨.keyed, some b, some a, false, none, none⟩
  enqueue (governorCommit s b) (.txon b a) 255#8 true

/-- The sequencer unkeys (R124): a KEYED record becomes HANGING and a TXOFF is queued. -/
def unkeyTokens (s : State) : State :=
  match s.tok.state, s.tok.band, s.tok.antenna with
  | .keyed, some b, some a =>
    announce
      (s.setTok { s.tok with state := .hanging, windowEnd := none, hangEnd := some (after s.now s.cfg.hang) })
      (.txoff b a)
  | _, _, _ => s

/-- A band change reaches the token unit (R127): anything but FREE ends with a DROP. -/
def bandChangeTokens (s : State) : State :=
  match s.tok.state with
  | .free => s
  | .bidding | .keyed | .hanging => dropTokens s

/-- What the token unit does with a forced abort (R127, R128): REVOKED turns KEYED to HANGING, RESTART drops a KEYED record
and ends a bid. For BAND_CHANGE and COLLISION it acts by itself. -/
def abortTokens (s : State) : AbortReason → State
  | .revoked => unkeyTokens s
  | .restart =>
    match s.tok.state with
    | .keyed => dropTokens s
    | .bidding => freeTokens s
    | .free | .hanging => s
  | .bandChange | .collision => s

/-! ### The yield test (R129) -/

/-- A peer ranks better than the node itself as a holder (R117). -/
def betterHolder (s : State) (p : Node) : Bool := betterRank (classOf s p) p s.cfg.cls s.node

/-- The yield test fails (R129): the better holders reach a limit. -/
def yieldFails (s : State) : Bool :=
  (s.tok.state == .keyed || s.tok.state == .hanging) &&
    match s.tok.band with
    | none => false
    | some b =>
      decide (s.cfg.bandLimit[b] ≤ ((peersOf s).filter (fun p => holdsBand s p b && betterHolder s p)).length)
        || decide (s.cfg.signalLimit ≤ ((peersOf s).filter (fun p => holdsSignal s p && betterHolder s p)).length)

/-! ### Bid records (R121) -/

/-- A BID makes or replaces the peer's bid record, which expires W + A after its arrival. -/
def recordBid (s : State) (p : Node) (b : Band) (cls : Class) (a : Antenna) : State :=
  s.setBids (s.bids.set p (some ⟨b, cls, a, s.now, after s.now (s.window + s.allowance)⟩))

end Sys2Proof.Machine
end

