-- ==== Sys2Proof/Machine/Choosing.lean ====
section
/-! DEFINITION. Making and changing a selection: giving up, asking, applying choices, pending work, band memory and releases
(05, sections 5.2 to 5.5). -/

namespace Sys2Proof.Machine

/-! ### Giving up and asking (R92, R94) -/

/-- A record's home still counts on it: a FREE is due when the selection is given up (R92). -/
def SelState.freeDue : SelState → Bool
  | .asking | .waiting | .granted => true
  | .empty | .reask | .failed => false

/-- ASKs still queued for a record are its own no more. -/
def disownAsks (s : State) (name : SelName) : State := disown s (isAsk (useOf name))

/-- A selection given up (R92): the record EMPTY with no choice, and its FREE to the home or to the own arbiter. A port of the
node's own that this empties is not re-offered here but behind every give-up of the event, so that the FREEs the event sends
to other homes stand before the GRANTs of the re-offer (R78; DESIGN CHOICE, log entry 49). -/
def giveUp (s : State) (name : SelName) : State :=
  let r := s.selection name
  let s := disownAsks (s.setSelection name Selection.reset) name
  match r.antenna with
  | none => s
  | some a =>
    if !r.state.freeDue then s
    else if homeOf a = s.node then judgeFree s s.node (portOf a) (useOf name)
    else sendTo s (homeOf a) (.free (portOf a) (useOf name) .release)

/-- An antenna asked for by a record (R94, step 5): the record ASKING, and an ASK with its reply deadline to a peer home, or
an ASK judged at once by the own arbiter. -/
def askFor (s : State) (name : SelName) (c : Nat) (a : Antenna) : State :=
  let asking : Selection := ⟨.asking, some c, some a, none, none, none, none, none⟩
  let s := disownAsks s name
  if homeOf a = s.node then
    judgeAsk (s.setSelection name asking) s.node (portOf a) (useOf name) s.band.decoded s.cfg.cls
  else
    (enqueue (s.setSelection name { asking with deadline := some (after s.now (2 * s.interval)) })
      (.ask (portOf a) (useOf name) s.band.decoded s.cfg.cls) (byte (homeOf a).val) true).1

/-- A record refused by a local check (R94, step 4): the antenna is set when the entry held one. -/
def refusedLocally (c : Nat) (entry : Option Antenna) (why : LocalReason) : Selection :=
  ⟨.failed, some c, entry, some (.refusedLocally why), none, none, none, none⟩

/-- A choice resolved, checked and asked for (R94, steps 2 to 5). FOLLOW leaves the record EMPTY with that choice; on band
NONE there is nothing to resolve and the choice is skipped (R17). Nothing is given up here. -/
def askChoice (s : State) (name : SelName) (c : Nat) : State :=
  if c = Config.follow then s.setSelection name { Selection.reset with choice := some c }
  else
  match entryOf s s.band.decoded c with
  | none => s
  | some entry =>
    match localCheck s name entry, entry with
    | some why, _ => s.setSelection name (refusedLocally c entry why)
    | none, some a => askFor s name c a
    | none, none => s

/-- A choice that may be absent, asked for. -/
def askIf (s : State) (name : SelName) : Option Nat → State
  | some c => askChoice s name c
  | none => s

/-- A record given up when there is a choice to put in its place. -/
def giveUpIf (s : State) (name : SelName) : Option Nat → State
  | some _ => giveUp s name
  | none => s

/-- The records that get a new choice given up, TX before RX (R94). -/
def giveUpBoth (s : State) (tx rx : Option Nat) : State := giveUpIf (giveUpIf s .tx tx) .rx rx

/-- The choices of one event asked for, TX before RX (R94). -/
def askBoth (s : State) (tx rx : Option Nat) : State := askIf (askIf s .tx tx) .rx rx

/-- Choices applied as one event (R94): TX given up, RX given up, TX asked, RX asked. The own ports that the give-ups freed are
re-offered between the last FREE and the first ASK, so also when TX was on an own port and RX on another home's (R78;
DESIGN CHOICE, log entry 49). -/
def applyChoices (s : State) (tx rx : Option Nat) : State :=
  askBoth (reofferFreed s (giveUpBoth s tx rx)) tx rx

/-- A record already holds a choice in ASKING, WAITING, GRANTED or REASK (R95, test 5). -/
def alreadyHolds (r : Selection) (c : Nat) : Bool :=
  r.choice == some c &&
    match r.state with
    | .asking | .waiting | .granted | .reask => true
    | .empty | .failed => false

/-- A choice left out when its record already holds it (R95, test 5; R96; R98). -/
def unlessHeld (r : Selection) : Option Nat → Option Nat
  | some c => if alreadyHolds r c then none else some c
  | none => none

/-! ### Band memory (R99) -/

/-- The pair a push contributes: each record's choice or the band's default, nothing when both records have none. -/
def pairNow (s : State) (b : Band) : Option (Nat × Nat) :=
  match s.sel.tx.choice, s.sel.rx.choice with
  | none, none => none
  | tx, rx => some (tx.getD s.cfg.defaultTx[b], rx.getD s.cfg.defaultRx[b])

/-- A pair pushed on a stack, top first: nothing when it equals the top, and the bottom dropped beyond 4 entries. -/
def pushPair (pair : Nat × Nat) (stack : List (Nat × Nat)) : List (Nat × Nat) :=
  if stack.head? = some pair then stack else (pair :: stack).take Config.stackPlaces

/-- The records' pair pushed on a band's stack (R99); nothing on band NONE. -/
def push (s : State) (b : Band) : State :=
  match pairNow s b with
  | some pair =>
    if b = 0 then s else s.setSel { s.sel with memory := s.sel.memory.set b (pushPair pair s.sel.memory[b]) }
  | none => s

/-- The top entry of a band's stack taken off. -/
def pop (s : State) (b : Band) : State :=
  s.setSel { s.sel with memory := s.sel.memory.set b (s.sel.memory[b]).tail }

/-- The choices on entry to a band: the top of its stack, popped, or its defaults (R100, R101). -/
def enterBand (s : State) (b : Band) : State :=
  match (s.sel.memory[b]).head? with
  | some pair => applyChoices (pop s b) (some pair.1) (some pair.2)
  | none => applyChoices s (some s.cfg.defaultTx[b]) (some s.cfg.defaultRx[b])

/-! ### Releases (R97) -/

def Scope.hasTx : Scope → Bool
  | .tx | .all => true
  | .rx => false

def Scope.hasRx : Scope → Bool
  | .rx | .all => true
  | .tx => false

/-- The actual scope worked out from what the release changed (R97): the RX record, the TX record, the tokens. -/
def actualScopeOf : Scope → Bool → Bool → Bool → ActualScope
  | .rx, true, _, _ => .rx
  | .rx, false, _, _ => .nothing
  | .tx, _, _, true => .txTokens
  | .tx, _, true, false => .tx
  | .tx, _, false, false => .nothing
  | .all, _, _, true => .all
  | .all, true, true, false => .all
  | .all, true, false, false => .rx
  | .all, false, true, false => .tx
  | .all, false, false, false => .nothing

/-- A release carried out (R97, R128). Of scope ALL, TX is given up before RX (DESIGN CHOICE, log entry 40). The re-offer of own
ports is the event's, behind its last FREE (DESIGN CHOICE, log entry 49). -/
def carryOutRelease (s : State) (scope : Scope) : State :=
  let rx := scope.hasRx && s.sel.rx.choice.isSome
  let tx := scope.hasTx && s.sel.tx.choice.isSome
  let tokens := scope.hasTx && s.tok.state == .hanging
  let s := if scope.hasTx then giveUp s .tx else s
  let s := if scope.hasRx then giveUp s .rx else s
  let s := if tokens then dropTokens s else s
  s.setSel { s.sel with actualScope := actualScopeOf scope rx tx tokens }

/-! ### Pending work (R98) -/

/-- Both slots and the pending release cleared. -/
def clearPending (s : State) : State :=
  s.setSel { s.sel with slotTx := none, slotRx := none, pendingRelease := none }

/-- A slot holds a choice that no RECALL put there. -/
def freshSlot : Option Slot → Bool
  | some slot => !slot.recalled
  | none => false

/-- The pending work carried out on entry to RECEIVE or LOCKOUT, as one event (R98): the own ports that it frees are re-offered
once, behind the give-ups of the release and of the slots and before the ASKs (DESIGN CHOICE, log entry 49). -/
def pendingWork (s : State) : State :=
  let tx := s.sel.slotTx
  let rx := s.sel.slotRx
  let s1 := match s.sel.pendingRelease with
    | some scope => carryOutRelease s scope
    | none => s
  let s2 := if freshSlot tx || freshSlot rx then push s1 s1.band.decoded else s1
  let newTx := unlessHeld s2.sel.tx (tx.map Slot.choice)
  let newRx := unlessHeld s2.sel.rx (rx.map Slot.choice)
  askBoth (reofferFreed s (giveUpBoth (clearPending s2) newTx newRx)) newTx newRx

/-- A choice put into its record's pending slot (R98). -/
def putSlot (s : State) (c : Nat) (recalled : Bool) : State :=
  if isTxChoice c then s.setSel { s.sel with slotTx := some ⟨c, recalled⟩ }
  else s.setSel { s.sel with slotRx := some ⟨c, recalled⟩ }

/-- A release put aside: the slots within its scope emptied and the pending release set (R98). -/
def putRelease (s : State) (scope : Scope) : State :=
  s.setSel { s.sel with
    slotTx := if scope.hasTx then none else s.sel.slotTx
    slotRx := if scope.hasRx then none else s.sel.slotRx
    pendingRelease := some scope }

/-- A band change drops the pending work; a pending release so removed leaves the actual scope NONE (R98, R97). -/
def dropPending (s : State) : State :=
  let s' := clearPending s
  if s.sel.pendingRelease.isSome then s'.setSel { s'.sel with actualScope := .nothing } else s'

/-! ### Band change (R100) -/

/-- The selection unit's part of a band change, after the pending work is dropped (R100, steps 2 to 5). The own ports that the
give-ups freed are re-offered behind both FREEs and before the ASKs for the new band (DESIGN CHOICE, log entry 49). -/
def bandChangeSelections (s : State) (old new : Band) : State :=
  let pushed := if old = 0 then s else push s old
  let bare := reofferFreed pushed (giveUp (giveUp pushed .tx) .rx)
  if new = 0 then bare else enterBand bare new

/-! ### Retries (R108, R109) -/

/-- A record that an ACTIVE ROLL of its peer home asks again: FAILED(NO_REPLY), FAILED(REFUSED, STARTING) or REASK. -/
def retried (r : Selection) (h : Node) : Bool :=
  r.homedAt h &&
    match r.state with
    | .reask => true
    | .failed => r.reason == some .noReply || r.reason == some (.refusedByHome .starting)
    | .empty | .asking | .waiting | .granted => false

/-- A record's own choice resolved and asked afresh (R94 from step 4). -/
def askAgain (s : State) (name : SelName) : State := askIf s name (s.selection name).choice

/-- Both records retried at an ACTIVE ROLL of a home (R108, R109). Where the ROLL re-asks both, the ASK of the TX record is queued
before that of the RX record (DESIGN CHOICE, log entry 50). -/
def retrySelections (s : State) (h : Node) : State :=
  let s := if retried s.sel.tx h then askAgain s .tx else s
  if retried s.sel.rx h then askAgain s .rx else s

/-- A FREE from a home (R106): a GRANTED record fails, and a reconcile of an ASKING or WAITING record asks again. -/
def takeFreeFromHome (s : State) (a : Antenna) (use : Use) (cause : FreeCause) : State :=
  let r := s.selection (recordFor use)
  if cause = .reconcile ∧ r.names a ∧ (r.state = .asking ∨ r.state = .waiting) then askAgain s (recordFor use)
  else takeLoss s a use cause

end Sys2Proof.Machine
end

