-- ==== Sys2Proof/Machine/Keying.lean ====
section
/-! DEFINITION. The keying sequencer: keydown checks, the key-wait, steps, tails, refusals and forced aborts (08), with the
token unit's reports to it. -/

namespace Sys2Proof.Machine

/-! ### Coming to rest (R98, R144) -/

/-- Entry to RECEIVE or LOCKOUT: the held-over guard is folded and the pending work carried out. -/
def enterRest (s : State) : State := pendingWork (foldGuards s)

/-- The sequencer at rest: no key-wait, no steps, no tail. -/
def Keying.rest (k : Keying) (state : KeyState) : Keying :=
  { k with state := state, leadLength := 0, lead := .nothing, ampAt := none, lastAt := none, tail := none }

/-- The sequencer enters RECEIVE; a lockout reason stays as the last one (R156). -/
def enterReceive (s : State) : State := enterRest (s.setKey { s.key.rest .receive with reason := none })

/-- The sequencer enters LOCKOUT with a reason. -/
def enterLockout (s : State) (r : LockReason) : State :=
  enterRest (s.setKey { s.key.rest .lockout with reason := some r, lastReason := some r })

/-- A keydown refused (R156). -/
def refuse (s : State) (r : LockReason) : State :=
  enterLockout ((s.count .keyRefusals 1).raise .keyRefused) r

/-! ### Reports of frames not sent (R116, R161) -/

/-- The awaited BID was not sent: the record FREE, and a keydown that waits on it refused with LINK (R116, R161). -/
def bidLost (s : State) : State :=
  let s := freeTokens s
  if s.key.state = .keyWait then refuse s .link else s

/-- A TXON was not sent: a keydown whose lead waits for it unkeys and is refused with LINK (R161). -/
def txonLost (s : State) : State :=
  if s.key.state = .keyWait ∧ s.key.lead = .awaitsTxon then refuse (unkeyTokens s) .link else s

/-! ### Taking a keydown (R155–R157) -/

/-- The first of checks 1 to 6 that fails (R155). -/
def keydownRefusal (s : State) : Option LockReason :=
  if s.mode ≠ .active ∨ s.host.restartHeld then some .starting
  else if s.band.decoded = 0 then some .noBand
  else if s.sel.tx.state ≠ .granted ∨ s.sel.tx.antenna = none then some .noAntenna
  else if s.cfg.bandLimit[s.band.decoded] = 0 then some .bandClosed
  else if rulesLevel s then some .rules
  else if s.tracker.isolated ∧ s.cfg.policy = .block then some .isolated
  else none

/-- The lead of a keydown on an antenna (R157): A when a peer listens on a coupled antenna, else 0. -/
def leadFor (s : State) (a : Antenna) : Nat :=
  if (coupledListeners s (couplingOf s a)).isEmpty then 0 else s.allowance

/-- KEY_WAIT entered with a lead counted from `lead`; a lead of 0 is met at once (R157, R158), and no completion gives it an
end (DESIGN CHOICE, log entry 42). -/
def waitWith (s : State) (lead : Lead) : State :=
  s.setKey { s.key with lead := if s.key.leadLength = 0 then .met else lead }

/-- A keydown that keys at once, from HANGING or on a LOCAL win (R125, R131): the lead is counted from the TXON. -/
def keyAtOnce (s : State) (a : Antenna) : State :=
  let r := keyTokens (waitWith s .awaitsTxon) s.band.decoded a
  if r.2 then r.1 else txonLost r.1

/-- A keydown that bids (R116): the lead is counted from the BID. -/
def keyByBid (s : State) (a : Antenna) : State :=
  let r := queueBid (waitWith s .awaitsBid) a
  if r.2 then r.1 else bidLost r.1

/-- A running bid joined (R115): its completion may be past, at the window end less W (R158). -/
def joinBid (s : State) : State :=
  match s.tok.awaitedBid, s.tok.windowEnd with
  | false, some t => waitWith s (.ends (after (t - BitVec.ofNat 32 s.window) s.key.leadLength))
  | _, _ => waitWith s .awaitsBid

/-- The keydown handed to the token unit (R157, R115). -/
def requestKeydown (s : State) (a : Antenna) : State :=
  match s.tok.state with
  | .free =>
    if s.tracker.isolated ∧ s.cfg.policy = .localKeying then
      if countWins s s.band.decoded then keyAtOnce s a else refuse s .tokenBusy
    else keyByBid s a
  | .bidding => if s.tok.antenna = some a then joinBid s else keyByBid s a
  | .hanging | .keyed => keyAtOnce s a

/-- KEY_WAIT entered for an antenna, with its lead set (R157). The last lockout reason is dropped (R156). -/
def enterKeyWait (s : State) (a : Antenna) : State :=
  s.setKey { s.key with
    state := .keyWait
    reason := none
    lastReason := none
    leadLength := leadFor s a
    lead := .nothing
    ampAt := none
    lastAt := none
    tail := none }

/-- A PTT press taken in RECEIVE (R155): the checks in order, the governor last. -/
def takePress (s : State) : State :=
  match keydownRefusal s, s.sel.tx.antenna with
  | some r, _ => refuse s r
  | none, none => refuse s .noAntenna
  | none, some a =>
    let g := governorCheck s
    if g.2 then refuse g.1 .governor else requestKeydown (enterKeyWait g.1 a) a

/-! ### The key-wait (R158, R159) -/

def leadMet (s : State) : Bool :=
  match s.key.lead with
  | .met => true
  | .ends t => reached t s.now
  | .nothing | .awaitsBid | .awaitsTxon => false

def localGuardMet (s : State) : Bool := passed s.drv.localEnd s.now

def remoteGuardMet (s : State) : Bool := dueAt s.sel.tx.guardEnd s.now

def tokensMet (s : State) : Bool := s.tok.state == .keyed

/-- All four conditions of the key-wait are met (R159). -/
def keyWaitOver (s : State) : Bool := localGuardMet s && remoteGuardMet s && tokensMet s && leadMet s

/-- A lead counted from a completion starts at it (R158). A lead of 0 is met already and takes no end (DESIGN CHOICE, log entry
42). -/
def startLead (s : State) (awaited : Lead) : State :=
  if s.key.state = .keyWait ∧ s.key.lead = awaited then
    s.setKey { s.key with lead := .ends (after s.now s.key.leadLength) }
  else s

/-! ### Steps (R162) -/

/-- The key-wait ends: STEP_UP, PROTECT on by the steps, and the two step ticks set (R162). -/
def beginSteps (s : State) : State :=
  s.setKey { s.key.rest .stepUp with
    stepProtect := true
    ampAt := some (after s.now s.cfg.d1)
    lastAt := some (after s.now (s.cfg.d1 + s.cfg.d2)) }

/-! ### Tails (R164) -/

/-- The lockout reason of an abort. -/
def AbortReason.lock : AbortReason → LockReason
  | .collision => .collision
  | .bandChange => .bandChange
  | .revoked => .revoked
  | .restart => .restart

/-- The end of a tail: step-PROTECT cleared, then RECEIVE after an unkey, or LOCKOUT after an abort, left at once when PTT is
released (R164). -/
def endTail (s : State) (t : Tail) : State :=
  let s := s.setKey { s.key with stepProtect := false, amp := false }
  match t with
  | .unkey => enterReceive s
  | .abort r =>
    let s := enterLockout s r.lock
    if s.key.level then s else enterReceive s

/-- The tail entered from the point reached (R164): INHIBIT asserted, and the step ticks of the tail; a tail from KEY_WAIT,
or from STEP_UP with AMP not yet on, has length 0 and ends at once. -/
def enterTail (s : State) (t : Tail) : State :=
  let down := { s.key.rest .stepDown with inhibit := true, tail := some t }
  match s.key.state with
  | .transmit =>
    s.setKey { down with
      ampAt := some (after s.now s.cfg.d2), lastAt := some (after s.now (s.cfg.d2 + s.cfg.d1)) }
  | .stepUp =>
    if s.key.amp then s.setKey { down with amp := false, lastAt := some (after s.now s.cfg.d1) }
    else endTail (s.setKey down) t
  | .receive | .keyWait | .stepDown | .lockout => endTail (s.setKey down) t

/-! ### Forced aborts (R165) -/

/-- A forced abort in KEY_WAIT, STEP_UP or TRANSMIT: the token unit acts on the reason, KEY_ABORTS and KEY_ABORTED, and the
abort tail (R165). In any other state it is not an abort. -/
def abort (s : State) (r : AbortReason) : State :=
  if s.key.state.keyed then
    enterTail (((abortTokens s r).count .keyAborts 1).raise .keyAborted) (.abort r)
  else s

/-- The TX selection has left GRANTED while the sequencer is keyed (R111), or its remote guard end has been moved beyond the
current tick in STEP_UP or TRANSMIT (R162). -/
def txLost (s : State) : Bool :=
  s.key.state.keyed &&
    (s.sel.tx.state != .granted
      || ((s.key.state == .stepUp || s.key.state == .transmit) && !passed s.sel.tx.guardEnd s.now))

/-- The abort that the loss of the TX selection calls for (R111, R162). -/
def abortIfTxLost (s : State) : State := if txLost s then abort s .revoked else s

/-- The yield of a holder that learns of better holders (R129, R130), against the sender of the frame. -/
def yieldTest (s : State) (p : Node) (kind : FrameKind) (sequence : Byte) : State :=
  if yieldFails s then
    let keyed := s.tok.state == .keyed
    let s := ((dropTokens s).count .collisions 1).recordFault p .collision kind sequence
    if keyed then abort s .collision else s
  else s

/-! ### Closing a command -/

/-- Deferred actions whose holder has unkeyed (R79), and the abort of a keydown whose TX selection is lost (R111). -/
def followUp (s : State) : State := abortIfTxLost (carryOutDeferred s)

/-- What follows from the records before a command closes: deferred actions and the abort, both once more because an abort may
end a deferral, and then the outputs. -/
def closeEvent (s : State) : State := evalOutputs (followUp (followUp s))

end Sys2Proof.Machine
end

