-- ==== Sys2Proof/Machine/Peers.lean ====
section
/-! DEFINITION. The peer tracker: sequence and epoch, liveness, what the frames say, silence and eviction, isolation (03). -/

namespace Sys2Proof.Machine

/-! ### Records -/

/-- A record with its claims purged (R39). -/
def Peer.purge (r : Peer) : Peer :=
  { r with
    roll := none, keyed := none, bandToken := .free, signalToken := .free, tokenBand := 0, announced := false }

/-- How a frame stands to the record it reaches (R42–R46). -/
inductive Arrival where
  /-- It starts a record that was ABSENT or GONE (R42). -/
  | starts
  /-- It is a HELLO, which resets the record (R46). -/
  | hello
  /-- It shows another epoch (R44). -/
  | jump
  /-- It revives a SILENT record (R45). -/
  | revives
  /-- It is in sequence (R43). -/
  | inSequence
  /-- It repeats the last sequence (R43). -/
  | again
  /-- It shows that frames were lost (R43). -/
  | gap (lost : Nat)
  deriving DecidableEq, Repr

/-- The frames lost between two sequence numbers, modulo 256 (R43). -/
def framesLost (last received : Byte) : Nat := (received - last - 1).toNat

/-- The epoch check and the sequence check (R41–R46). -/
def arrivalOf (r : Peer) (isHello : Bool) (epoch : BitVec 4) (sequence : Byte) : Arrival :=
  if isHello then .hello
  else
    match r.state with
    | .absent | .gone => .starts
    | .silent => if epoch ≠ r.epoch then .jump else .revives
    | .current | .stale =>
      if epoch ≠ r.epoch then .jump
      else if sequence = r.sequence + 1 then .inSequence
      else if sequence = r.sequence then .again
      else .gap (framesLost r.sequence sequence)

/-- The state of a record after the checks (R42–R47). -/
def stateAfter (r : Peer) (a : Arrival) (goodRoll : Bool) : PeerState :=
  match a with
  | .hello | .gap _ => .stale
  | .starts | .jump | .revives => if goodRoll then .current else .stale
  | .inSequence => if goodRoll then .current else r.state
  | .again => r.state

/-- The record after the epoch check, the sequence check and the liveness update (R41). -/
def heardRecord (r : Peer) (a : Arrival) (k : FrameKind) (epoch : BitVec 4) (sequence : Byte) (now : Tick)
    (goodRoll : Bool) : Peer :=
  let base := match a with
    | .hello | .jump => r.purge
    | .starts | .revives | .inSequence | .again | .gap _ => r
  { base with
    state := stateAfter r a goodRoll
    epoch := epoch
    sequence := sequence
    lastKind := k
    lastFrame := now
    orphanEnd := none }

/-! ### Isolation (R58, R59) -/

/-- Isolation set (R58): the sent-since-isolation flag is cleared. -/
def isolate (s : State) : State :=
  s.setTracker { s.tracker with isolated := true, sentSince := false }

/-- A peer frame accepted (R41, R59): the last-peer-frame tick is set, and isolation is cleared when a frame of the node's
own has been sent since it was set. -/
def peerHeard (s : State) : State :=
  let clears := s.tracker.isolated && s.tracker.sentSince
  s.setTracker { s.tracker with
    lastPeerFrame := s.now
    isolated := s.tracker.isolated && !clears
    sentSince := s.tracker.sentSince && !clears }

/-- A frame of the node's own was given up (R58, R30): in ACTIVE the node is isolated. -/
def ownFrameLost (s : State) : State := if s.mode = .active then isolate s else s

/-- A frame of the node's own was sent (R59). -/
def ownFrameSent (s : State) : State :=
  if s.tracker.isolated then s.setTracker { s.tracker with sentSince := true } else s

/-! ### Restarts and losses handed on -/

/-- A peer has restarted (R44, R86, R109): the token unit drops its bid record, the arbiter releases its grants and waits, and
the selection unit moves its selections to REASK, which may end a keydown (R111). -/
def peerRestarted (s : State) (p : Node) : State :=
  abortIfTxLost (homeRestarted (releasePeer (s.removeBid p) p) p)

/-- A peer becomes GONE (R51): its claims purged, its mark cleared, and the GONE event handed on (R85, R110, R122). -/
def peerGone (s : State) (p : Node) : State :=
  let s := s.setPeer p { (s.peer p).purge with state := .gone, mismatch := false, orphanEnd := none }
  abortIfTxLost (homeGone (releasePeer (s.removeBid p) p) p)

/-! ### Taking a frame (R41) -/

/-- The faults and the counter of an arrival (R43, R44). -/
def arrivalFaults (s : State) (p : Node) (a : Arrival) (k : FrameKind) (sequence : Byte) : State :=
  match a with
  | .gap lost => (s.count .framesLost lost).recordFault p .sequenceGap k sequence
  | .jump => s.recordFault p .epochJump k sequence
  | .starts | .hello | .revives | .inSequence | .again => s

/-- A frame taken by the tracker as far as every mark goes (R41): the checks, the liveness update and, at an epoch jump, the
restart handed on. -/
def track (s : State) (p : Node) (a : Arrival) (k : FrameKind) (epoch : BitVec 4) (sequence : Byte) (goodRoll : Bool) :
    State :=
  let s := arrivalFaults s p a k sequence
  let s := peerHeard (s.setPeer p (heardRecord (s.peer p) a k epoch sequence s.now goodRoll))
  match a with
  | .jump => peerRestarted s p
  | .starts | .hello | .revives | .inSequence | .again | .gap _ => s

/-- A rules digest judged against the node's own (R53). -/
def judgeDigest (s : State) (p : Node) (digest : BitVec 16) (k : FrameKind) (sequence : Byte) : State :=
  if s.digest = some digest then s.setPeer p { s.peer p with mismatch := false }
  else (s.setPeer p { s.peer p with mismatch := true }).recordFault p .rulesMismatch k sequence

/-! ### ROLLs and announcements (R47–R49) -/

/-- A ROLL is trusted: in sequence, with no announcement since the last ROLL (R48). -/
def trusted (r : Peer) (a : Arrival) : Bool := a == .inSequence && !r.announced

/-- The ROLL part filled (R47): an untrusted ROLL changes the keyed flag and the token states towards more claims only. -/
def filledRoll (old : Option Roll) (l : Roll) (trust : Bool) : Roll :=
  if trust then l
  else
    let was := old.map (fun o => (o.keyed, o.bandToken, o.signalToken)) |>.getD (false, .free, .free)
    { l with
      keyed := l.keyed || was.1
      bandToken := if l.bandToken = .free then was.2.1 else l.bandToken
      signalToken := if l.bandToken = .free then was.2.2 else l.signalToken }

/-- The record after a ROLL (R47, R48). -/
def rollRecord (r : Peer) (l : Roll) (trust : Bool) : Peer :=
  { r with
    roll := some (filledRoll r.roll l trust)
    keyed := if l.keyed then some ⟨l.band, l.tx⟩ else if trust then none else r.keyed
    bandToken := if trust ∨ l.bandToken ≠ .free then l.bandToken else r.bandToken
    signalToken := if trust ∨ l.bandToken ≠ .free then l.signalToken else r.signalToken
    tokenBand :=
      if trust ∨ l.bandToken ≠ .free then
        (if l.bandToken = .free ∧ l.signalToken = .free then 0 else l.band)
      else r.tokenBand
    announced := false }

/-- The record after an announcement (R49). -/
def announcedRecord (r : Peer) (c : Content) : Peer :=
  match c with
  | .txon b a =>
    { r with keyed := some ⟨b, some a⟩, bandToken := .keyed, signalToken := .keyed, tokenBand := b, announced := true }
  | .txoff b _ =>
    { r with keyed := none, bandToken := .hanging, signalToken := .hanging, tokenBand := b, announced := true }
  | .drop _ =>
    { r with keyed := none, bandToken := .free, signalToken := .free, tokenBand := 0, announced := true }
  | _ => r

/-! ### Silence (R50) -/

/-- The peer timeout: three ROLL intervals (R50). -/
def State.peerTimeout (s : State) : Nat := 3 * s.interval

/-- The tick at which a peer falls silent (R50). -/
def silenceAt (s : State) (p : Node) : Tick := after (s.peer p).lastFrame s.peerTimeout

/-- A peer's record SILENT, its fault recorded and its orphan hold begun (R50). -/
def silence (s : State) (p : Node) : State :=
  let r := s.peer p
  (s.setPeer p { r with
    state := .silent
    orphanEnd := some (after s.now (s.cfg.orphanHold * 1000)) }).recordFault p .silence r.lastKind r.sequence

end Sys2Proof.Machine
end

