-- ==== Sys2Proof/Machine/HostPort.lean ====
section
/-! DEFINITION. The host port: replies and their bodies, the checks of START, the rules digest and the ROLL the node fills
(10, 02). -/

namespace Sys2Proof.Machine

/-! ### Replies (R180, R181) -/

def Status.code : Status → Nat
  | .ok => 0
  | .badRequest => 1
  | .badValue => 2
  | .wrongState => 3
  | .busy => 4
  | .notPosition => 5
  | .empty => 6
  | .pending => 7
  | .badConfig => 8
  | .noBand => 9

/-- The checksum that brings the 8-bit sum of a record to 0 (R180). -/
def checksum (bytes : List Byte) : Byte := 0 - bytes.sum

/-- All bytes of a reply in the order they are sent (R180). -/
def Reply.bytes (r : Reply) : List Byte :=
  let front := [r.kind, byte r.body.length, byte r.status.code] ++ r.body
  front ++ [checksum front]

/-- A reply falls due, after those due before it (R181). Its kind is the request's with the top place set. -/
def respond (s : State) (kind : Byte) (status : Status) (body : List Byte) : State :=
  s.setHost { s.host with replies := s.host.replies ++ [⟨kind ||| 0x80#8, status, body⟩] }

/-- A reply with an empty body. -/
def answerOnly (s : State) (kind : Byte) (status : Status) : State := respond s kind status []

/-- The port takes a request whole: RESET is not held, nothing is being discarded, no record is open and no reply is
outstanding (R180, R181, R188). -/
def hostTakes (s : State) : Bool :=
  !s.inReset && !s.host.discarding && s.host.replies.isEmpty && s.host.record.isEmpty && !s.host.framingError

/-! ### Records (R180) -/

/-- All bytes of a request in the order they arrive (R180). -/
def requestBytes (kind : Byte) (body : List Byte) : List Byte :=
  let front := [kind, byte body.length] ++ body
  front ++ [checksum front]

/-- The open record closed; nothing to do where none is open. -/
def closeRecord (s : State) : State := s.setHost { s.host with record := [], framingError := false }

/-- A byte arrives in this tick: a gap is counted from it. -/
def byteArrives (s : State) : State := s.setHost { s.host with lastByte := s.now }

/-- A good request can close the record in the assembly: what is open, if anything, is its first bytes and free of framing
errors (log entry 20). -/
def closesOpen (s : State) (record : List Byte) : Bool := s.host.record.isPrefixOf record && !s.host.framingError

/-- A good request arrives (R180, R181). Its bytes are discarded while an over-long record's are; while a reply is outstanding
it closes and is not answered; otherwise it is handed on. While RESET is held it never reaches the port (R188). -/
def takeRequest (s : State) (record : List Byte) (f : State → State) : State :=
  if s.inReset then s
  else if s.host.discarding then byteArrives s
  else if !closesOpen s record then s
  else if s.host.replies.isEmpty then f (closeRecord s)
  else closeRecord s

/-! ### The codes of the requests (R182) -/

/-- The length of a request's body, none for an unknown kind and for PUT, whose length its item gives. -/
def requestLength (kind : Nat) : Option Nat :=
  match kind with
  | 0x02 => some 2
  | 0x03 => some 0
  | 0x04 => some 1
  | 0x05 => some 0
  | 0x06 => some 1
  | 0x07 => some 1
  | 0x08 => some 1
  | 0x09 => some 1
  | 0x0A => some 0
  | 0x0B => some 0
  | 0x0C => some 1
  | 0x0D => some 2
  | 0x0E => some 1
  | 0x0F => some 0
  | 0x10 => some 1
  | 0x11 => some 1
  | 0x12 => some 3
  | _ => none

/-- The body's length fits the kind or, for PUT, the item (R180). -/
def bodyFits (cfg : Store) (kind : Nat) (body : List Byte) : Bool :=
  if kind = 1 then
    match body with
    | item :: index :: value => putItem cfg item.toNat index.toNat value != .wrongLength
    | _ => false
  else requestLength kind == some body.length

/-- A complete record is bad: its sum, its kind or its length (R180). -/
def recordBad (cfg : Store) (record : List Byte) : Bool :=
  match record with
  | kind :: _ :: rest => record.sum != 0 || !bodyFits cfg kind.toNat rest.dropLast
  | _ => true

/-- A bad record closed: answered BAD_REQUEST, or not at all while a reply is outstanding (R180, R181). -/
def badRecord (s : State) (kind : Byte) : State :=
  let s := closeRecord s
  if s.host.replies.isEmpty then answerOnly s kind .badRequest else s

/-- An over-long record: answered at its length byte as a bad record, and the bytes after it discarded until a gap (R180; log
entry 24). -/
def overLong (s : State) (kind : Byte) : State :=
  let s := badRecord (byteArrives s) kind
  s.setHost { s.host with discarding := true }

/-- Bytes that leave the record open (R180). -/
def keepOpen (s : State) (record : List Byte) (framingError : Bool) : State :=
  s.setHost { s.host with record := record, framingError := framingError, lastByte := s.now }

/-- The record in the assembly judged with the bytes that have now arrived (R180). A good record, and bytes beyond a record's
end, stand under other rows (log entry 1). -/
def judgeRecord (s : State) (record : List Byte) (framingError : Bool) : State :=
  match record with
  | kind :: len :: rest =>
    if Config.requestBody < len.toNat then overLong s kind
    else if rest.length ≤ len.toNat then keepOpen s record framingError
    else if rest.length = len.toNat + 1 ∧ (framingError ∨ recordBad s.cfg record) then badRecord s kind
    else s
  | _ => keepOpen s record framingError

/-- Bytes arrive that complete no good request (R180). -/
def takeBytes (s : State) (bytes : List Byte) (framingError : Bool) : State :=
  if s.inReset ∨ bytes = [] then s
  else if s.host.discarding then byteArrives s
  else judgeRecord s (s.host.record ++ bytes) (s.host.framingError || framingError)

/-- Five ticks have passed with no byte while a record is open or bytes are being discarded (R180). -/
def gapDue (s : State) : Bool :=
  !s.inReset && (s.host.discarding || !s.host.record.isEmpty) && reached (after s.host.lastByte Config.gapTicks) s.now

/-- The gap closes the open record, which is bad, or ends the discard (R180). -/
def endGap (s : State) : State :=
  if s.host.discarding then s.setHost { s.host with discarding := false }
  else
    match s.host.record with
    | kind :: _ => badRecord s kind
    | [] => s

/-! ### Encoding of replies (R182) -/

def tickBytes (t : Tick) : List Byte := bytes4 t

/-- A field that may be absent: preceded by 1 when present and 0 when not, an absent one as 0 in its full width. -/
def optional {α : Type} (width : Nat) (f : α → List Byte) : Option α → List Byte
  | some x => byte 1 :: f x
  | none => byte 0 :: List.replicate width (byte 0)

def optTick (t : Option Tick) : List Byte := optional 4 tickBytes t

def optByte (n : Option Nat) : List Byte := optional 1 (fun n => [byte n]) n

/-- An antenna that may be none, as a field that may be absent (log entry 16). -/
def optAntenna (a : Option Antenna) : List Byte := optByte (a.map Fin.val)

/-- A two-valued flag or level as a byte of a reply: 1 for set, pressed, asserted, on or yes, and 0 for the other value. R182
gives presence bytes, codes and places and says nothing of flags (DESIGN CHOICE, unsafe, log entry 51). -/
def flagByte (b : Bool) : Byte := byte (flag b)

def Role.number : Role → Nat
  | .position => 0
  | .tower => 1

def Mode.number : Mode → Nat
  | .setup => 0
  | .listenIn => 1
  | .active => 2

def PeerState.number : PeerState → Nat
  | .absent => 0
  | .current => 1
  | .stale => 2
  | .silent => 3
  | .gone => 4

def SelState.number : SelState → Nat
  | .empty => 0
  | .asking => 1
  | .waiting => 2
  | .granted => 3
  | .reask => 4
  | .failed => 5

/-- The own token state in STATUS: its place in the list of R113 (DESIGN CHOICE, log entry 43). -/
def TokenState.number : TokenState → Nat
  | .free => 0
  | .bidding => 1
  | .keyed => 2
  | .hanging => 3

def KeyState.number : KeyState → Nat
  | .receive => 0
  | .keyWait => 1
  | .stepUp => 2
  | .transmit => 3
  | .stepDown => 4
  | .lockout => 5

def LockReason.number : LockReason → Nat
  | .starting => 0
  | .noBand => 1
  | .noAntenna => 2
  | .bandClosed => 3
  | .rules => 4
  | .isolated => 5
  | .governor => 6
  | .tokenBusy => 7
  | .link => 8
  | .collision => 9
  | .bandChange => 10
  | .revoked => 11
  | .restart => 12

def FaultKind.number : FaultKind → Nat
  | .sequenceGap => 0
  | .epochJump => 1
  | .badContent => 2
  | .rulesMismatch => 3
  | .collision => 4
  | .noReply => 5
  | .orphanGrant => 6
  | .silence => 7

def Scope.number : Scope → Nat
  | .rx => 0
  | .tx => 1
  | .all => 2

def ActualScope.number : ActualScope → Nat
  | .nothing => 0
  | .rx => 1
  | .tx => 2
  | .txTokens => 3
  | .all => 4

/-- A local reason as it is sent: the code that R22 gives a REFUSE reason of its name, and for EMPTY_CHOICE, which has none,
its place in the list of R18 (R182). -/
def LocalReason.number : LocalReason → Nat
  | .emptyChoice => 0
  | .noPort => RefuseReason.noPort.code
  | .wrongBand => RefuseReason.wrongBand.code
  | .wrongUse => RefuseReason.wrongUse.code

/-- A failure reason: its place in the list of R92, the side that refused (0 the node, 1 the home) and the refusal
(log entry 16). -/
def FailReason.bytes : FailReason → List Byte
  | .noReply => [0, 0, 0]
  | .refusedLocally r => [1, 0, byte r.number]
  | .refusedByHome r => [1, 1, byte r.code]
  | .revoked => [2, 0, 0]
  | .lost => [3, 0, 0]
  | .homeGone => [4, 0, 0]

/-! ### VIEW, CATALOGUE, NOTICES, COUNTERS, FAULTS -/

def bidBytes (b : Bid) : List Byte :=
  [byte b.band.val, byte b.cls.number, byte b.antenna.val] ++ tickBytes b.arrival ++ tickBytes b.expiry

/-- Keyed knowledge: its band, and its antenna or none. -/
def keyedBytes (k : KeyedKnowledge) : List Byte := [byte k.band.val] ++ optAntenna k.antenna

/-- The epoch, last sequence and last-frame time of a record; in ABSENT they have no meaning and are free values (R66, log
entry 7). -/
def heardBytes (s : State) (r : Peer) : List Byte :=
  if r.state = .absent then
    [(Config.unstated s.freeIndex).truncate 8, (Config.unstated (s.freeIndex + 1)).truncate 8]
      ++ tickBytes (Config.unstated (s.freeIndex + 2))
  else [r.epoch.zeroExtend 8, r.sequence] ++ tickBytes r.lastFrame

/-- A band that may be none. -/
def optBand (b : Band) : List Byte := optByte (if b = 0 then none else some b.val)

/-- The body of a VIEW reply, in the order of R66. The mismatch mark and the catalogue-known flag are flag bytes (log
entry 51). -/
def viewBody (s : State) (p : Node) : List Byte :=
  let r := s.peer p
  [byte r.state.number] ++ heardBytes s r ++ optTick r.orphanEnd ++ optional 10 Roll.bytes r.roll
    ++ optional 3 keyedBytes r.keyed
    ++ [byte r.bandToken.code, byte r.signalToken.code] ++ optBand r.tokenBand
    ++ [flagByte r.mismatch, flagByte s.learned[p].known] ++ optional 11 bidBytes s.bids[p]

/-- A node's catalogue as the CATALOGUE request reads it: the own one is always known (R12). -/
def catalogueOf (s : State) (n : Node) : Learned := if n = s.node then ⟨true, ownDescriptors s⟩ else s.learned[n]

/-- The body of a NOTICES reply: the levels and the change flags (R173, R182). -/
def noticesBody (r : Reporting) : List Byte := [r.levels.zeroExtend 8] ++ bytes2 (r.flags.zeroExtend 16)

/-- A counter as two bytes. -/
def counterBytes (n : Nat) : List Byte := bytes2 (BitVec.ofNat 16 n)

/-- The body of a COUNTERS reply (R177). -/
def countersBody (r : Reporting) : List Byte := r.holding.toList.flatMap counterBytes ++ optTick r.snapshotTick

/-- The five fields of a fault record (R178). -/
def faultBytes (f : FaultRecord) : List Byte :=
  [byte f.kind.number, byte f.frameKind.code, f.sequence] ++ tickBytes f.time ++ [byte f.collapsed]

/-! ### STATUS (R189) -/

/-- The node group of STATUS. Whether a RESTART is held, and isolation, are flag bytes (log entry 51). -/
def statusNode (s : State) : List Byte :=
  [byte s.node.val, byte s.cfg.role.number, byte s.cfg.cls.number, byte s.mode.number, flagByte s.host.restartHeld]
    ++ tickBytes s.now ++ [flagByte s.tracker.isolated, byte s.allowance] ++ bytes2 (s.digest.getD 0) ++ [wantMask s]

def statusBand (s : State) : List Byte := [s.band.settled.zeroExtend 8, byte s.band.decoded.val]

def selectionBytes (r : Selection) : List Byte :=
  [byte r.state.number] ++ optByte r.choice ++ optAntenna r.antenna ++ optional 3 FailReason.bytes r.reason
    ++ optByte r.place ++ optTick r.deadline ++ optTick r.guardEnd

/-- What a pending slot holds: its choice, and its recalled mark as a flag byte (R98, log entry 51). -/
def slotBytes (slot : Slot) : List Byte := [byte slot.choice, flagByte slot.recalled]

/-- The selection group of STATUS. The current band's stack lists its top entry first (DESIGN CHOICE, log entry 39). -/
def statusSelection (s : State) : List Byte :=
  selectionBytes s.sel.tx ++ selectionBytes s.sel.rx ++ optional 2 slotBytes s.sel.slotTx ++ optional 2 slotBytes s.sel.slotRx
    ++ optByte (s.sel.pendingRelease.map Scope.number) ++ [byte s.sel.actualScope.number]
    ++ allBands.map (fun b => byte (s.sel.memory[b]).length)
    ++ [byte (s.sel.memory[s.band.decoded]).length]
    ++ (s.sel.memory[s.band.decoded]).flatMap (fun e => [byte e.1, byte e.2])

/-- The token group of STATUS. The class and the own rank are sent as configured in every mode and role (DESIGN CHOICE, log
entry 44). -/
def statusTokens (s : State) : List Byte :=
  [byte s.tok.state.number] ++ optByte (s.tok.band.map Fin.val) ++ optAntenna s.tok.antenna ++ optTick s.tok.windowEnd
    ++ optTick s.tok.hangEnd ++ optByte (s.gov.lastBand.map Fin.val) ++ optTick s.gov.lastChange ++ [byte s.gov.changes]
    ++ optTick s.gov.nextHour ++ [byte s.cfg.cls.number, byte s.node.val]

/-- The unmet conditions of the key-wait as a set, in the order of R159. -/
def unmetSet (s : State) : Nat :=
  flag (!localGuardMet s) + 2 * flag (!remoteGuardMet s) + 4 * flag (!tokensMet s) + 8 * flag (!leadMet s)

/-- The tick of a lead end once it is known. A lead of 0 that is met shows none (DESIGN CHOICE, log entry 42). -/
def leadEnd (s : State) : Option Tick :=
  match s.key.lead with
  | .ends t => some t
  | .nothing | .met | .awaitsBid | .awaitsTxon => none

/-- The key-wait's part of STATUS, 0 outside KEY_WAIT (R170, R189). -/
def statusKeyWait (s : State) : List Byte :=
  if s.key.state = .keyWait then
    [byte (unmetSet s)] ++ optTick s.drv.localEnd ++ optTick s.sel.tx.guardEnd ++ optTick s.tok.windowEnd
      ++ [byte s.key.leadLength] ++ optTick (leadEnd s)
  else List.replicate 22 (byte 0)

/-- A tail kind: its place in 'unkey or abort with a reason', as chapter 8 lists it (R182). -/
def tailBytes : Tail → List Byte
  | .unkey => [0]
  | .abort _ => [1]

/-- The step ticks still to come and the tail kind (R170). R170 and R182 do not say whether the ticks are a counted list or a
field for each step, nor which steps have one: the model sends two optional ticks, AMP's and then the last one, which is
INHIBIT's in STEP_UP and PROTECT's in STEP_DOWN (DESIGN CHOICE, unsafe, log entry 52). -/
def statusSteps (s : State) : List Byte :=
  optTick s.key.ampAt ++ optTick s.key.lastAt ++ optional 1 tailBytes s.key.tail

/-- Whether PROTECT is held by the steps, by coupled protection, or by both (R170). -/
def protectHolders (s : State) : Nat :=
  if s.isTower then 0 else flag s.key.stepProtect + 2 * flag (coupled s)

/-- The keying group of STATUS (R189). The step delays d1 and d2 are sent as they are configured, in both roles and in every mode
(DESIGN CHOICE, log entry 44). The debounced PTT and the levels of INHIBIT, AMP and PROTECT are flag bytes (log entry 51). -/
def statusKeying (s : State) : List Byte :=
  [byte s.key.state.number] ++ optByte (s.key.lastReason.map LockReason.number)
    ++ [flagByte s.key.level, flagByte s.key.inhibit, flagByte s.key.amp, flagByte s.key.protect, byte (protectHolders s)]
    ++ statusKeyWait s ++ statusSteps s ++ [byte s.cfg.d1, byte s.cfg.d2]

def driveChangeBytes (c : DriveChange) : List Byte :=
  tickBytes c.tick ++ [byte c.outputs, byte c.settle, byte c.guard]

def statusDrive (s : State) : List Byte :=
  bytes4 s.drv.word ++ optTick s.drv.localEnd ++ [byte (remaining s.drv.localEnd s.now)] ++ optTick s.drv.heldEnd
    ++ [byte (remaining s.drv.heldEnd s.now)] ++ optional 7 driveChangeBytes s.drv.lastChange

/-- A configured port in STATUS: its state, its numbers of holders and waiters, and revoke-pending as a flag byte (R88, log
entry 51). -/
def portBytes (s : State) (p : Port) : List Byte :=
  [byte (portState s p), byte (s.port p).holders.length, byte (s.port p).waits.length, flagByte (s.port p).revokePending]

/-- The configured ports in ascending order. -/
def configuredPorts (s : State) : List Port := allPorts.filter (fun p => (s.cfg.antennas[p]).isSome)

def statusPorts (s : State) : List Byte :=
  [byte (configuredPorts s).length] ++ (configuredPorts s).flatMap (portBytes s) ++ bytes2 s.arb.arrivals

/-- The body of a STATUS reply, group by group (R189). -/
def statusBody (s : State) : List Byte :=
  statusNode s ++ statusBand s ++ statusSelection s ++ statusTokens s ++ statusKeying s ++ statusDrive s ++ statusPorts s

/-! ### START (R139, R184, R185) -/

/-- The rules digest (R184). -/
def rulesDigest (cfg : Store) : BitVec 16 :=
  crc ([byte cfg.nodes, byte (match cfg.rate with | .r62500 => 0 | .r125000 => 1 | .r250000 => 2),
      byte (match cfg.interval with | .ms100 => 0 | .ms250 => 1 | .ms500 => 2)]
    ++ allBands.map (fun b => byte cfg.bandLimit[b]) ++ [byte cfg.signalLimit])

/-- Two patterns set different levels on one output (R139). -/
def disagree (p q : Pattern) : Bool := p.any (fun e => q.any (fun f => e.1 == f.1 && e.2 != f.2))

/-- The pattern of a configured port. -/
def patternOf (cfg : Store) (p : Port) : Pattern :=
  match cfg.antennas[p] with
  | some c => c.pattern
  | none => []

/-- Two ports are in the same non-zero feedline group. -/
def sameFeedline (cfg : Store) (p q : Port) : Bool :=
  match cfg.antennas[p], cfg.antennas[q] with
  | some c, some d => c.descriptor.feedline != 0 && c.descriptor.feedline == d.descriptor.feedline
  | _, _ => false

/-- A port whose pattern disagrees with that of a lower-numbered port outside its feedline group (R139, check 1). -/
def antennaConflict (cfg : Store) (q : Port) : Bool :=
  allPorts.any fun p =>
    decide (p.val < q.val) && disagree (patternOf cfg p) (patternOf cfg q) && !sameFeedline cfg p q

/-- A port whose pattern disagrees with a band pattern (R139, check 2). -/
def bandConflict (cfg : Store) (q : Port) : Bool :=
  allBands.any (fun b => disagree cfg.bandPatterns[b] (patternOf cfg q))

/-- A pattern names an output above 31 (R185, check 4). -/
def outputTooHigh (p : Pattern) : Bool := p.any (fun e => decide (31 < e.1))

/-- The first item and index that fails the checks of START (R185), none when the configuration passes. -/
def configFault (s : State) : Option (Nat × Nat) :=
  let cfg := s.cfg
  if ¬ s.node.val < cfg.nodes then some (1, 0)
  else if cfg.role = .tower ∧ cfg.govMode ≠ .off then some (13, 0)
  else if cfg.role = .tower ∧ cfg.policy = .localKeying then some (11, 0)
  else
    match allPorts.find? (fun p => outputTooHigh (patternOf cfg p)) with
    | some p => some (17, p.val)
    | none =>
      match allBands.find? (fun b => outputTooHigh cfg.bandPatterns[b]) with
      | some b => some (18, b.val)
      | none =>
        match allPorts.find? (antennaConflict cfg) with
        | some p => some (17, p.val)
        | none =>
          if cfg.role = .tower then none
          else (allPorts.find? (bandConflict cfg)).map (fun p => (17, p.val))

/-! ### ROLL and HELLO (R23, R38) -/

/-- The token state a ROLL carries (R23). -/
def TokenState.held : TokenState → Held
  | .free | .bidding => .free
  | .keyed => .keyed
  | .hanging => .hanging

/-- The antenna a ROLL lists for a record: its antenna while GRANTED (R23). -/
def listedAntenna (r : Selection) : Option Antenna := if r.state = .granted then r.antenna else none

/-- The ROLL the node fills (R23). A tower's keyed and follow flags, band, antennas and token states are 0, NONE and none
because its token record, selections and decoded band stay empty (R114, R92, R15). -/
def rollNow (s : State) : Roll where
  active := s.mode == .active
  role := s.cfg.role
  cls := s.cfg.cls
  keyed := s.tok.state == .keyed
  isolated := s.tracker.isolated
  follow := s.sel.rx.choice == some Config.follow
  band := s.band.decoded
  tx := listedAntenna s.sel.tx
  rx := if s.sel.rx.choice = some Config.follow then none else listedAntenna s.sel.rx
  bandToken := s.tok.state.held
  signalToken := s.tok.state.held
  busy := busyMap s
  want := wantMask s
  digest := s.digest.getD 0

/-- A ROLL filled and queued, and the next one due an interval later (R38). -/
def queueRoll (s : State) (due : Tick) : State :=
  let s := announce s (.roll (rollNow s))
  s.setBus { s.bus with nextRoll := some (after due s.interval) }

/-- HELLO and the first ROLL of a beat queued, in that order (R38). -/
def openSession (s : State) : State :=
  queueRoll (announce s (.hello (s.digest.getD 0) (ownDescriptors s))) s.now

/-- The listen-in wait begun (R55, R57). -/
def beginListenIn (s : State) : State :=
  (s.setMode .listenIn).setTracker
    { s.tracker with listenInEnd := some (after s.now (2 * s.interval)), lastPeerFrame := s.now }

/-- Milliseconds from START to the first hour boundary (R133). -/
def toFirstHour (minute second : Nat) : Nat := (3600 - 60 * minute - second) * 1000

end Sys2Proof.Machine
end

