-- ==== Sys2Proof/Machine/HostCommands.lean ====
section
/-! DEFINITION. The host requests and the events of the host port (10, with the chapters that judge each request). -/

namespace Sys2Proof.Machine

/-- What every meaning answers. -/
abbrev Result := Host.Outcome State Fault Refusal

/-- A request of a kind with a body, as a good record brings it (R180, R181). -/
def request (s : State) (kind : Byte) (body : List Byte) (f : State → State) : Result :=
  .next (takeRequest s (requestBytes kind body) f)

/-! ### Configuration -/

/-- PUT (R183): wrong length, mode and range, in that order. One too long for a record is over-long at its length byte
(R180). -/
def execPut (item index : Byte) (value : List Byte) (s : State) : Result :=
  if Config.requestBody < value.length + 2 then .next (takeBytes s [0x01, byte (min (value.length + 2) 255)] false)
  else
    request s 0x01 (item :: index :: value) fun s =>
      match putItem s.cfg item.toNat index.toNat value with
      | .wrongLength => answerOnly s 0x01 .badRequest
      | .badValue => answerOnly s 0x01 (if s.mode = .setup then .badValue else .wrongState)
      | .stored cfg => if s.mode = .setup then answerOnly (s.setCfg cfg) 0x01 .ok else answerOnly s 0x01 .wrongState

/-- What a passing START does to the bus controller (R186, R19, R37): A computed, the bus treated as busy, nothing assembled. -/
def startBus (s : State) : State :=
  s.setBus { s.bus with
    allowance := some (linkAllowance s.cfg.nodes s.cfg.rate)
    free := false
    idle := 0
    openFrame := none
    stray := []
    complete := none
    afterComplete := false }

/-- A tower's decoded band is held at NONE and its sequencer at rest (R15, R169). -/
def startTower (s : State) : State :=
  if s.cfg.role = .tower then
    (s.setBand { s.band with decoded := 0 }).setKey
      { s.key.rest .receive with reason := none, inhibit := true, amp := false, stepProtect := false }
  else s

/-- The effects of a START that passes its checks (R186). -/
def startEffects (s : State) (minute second : Nat) : State :=
  let s := startTower (startBus (beginListenIn (s.setDigest (some (rulesDigest s.cfg)))))
  let s := s.setGov { s.gov with nextHour := some (after s.now (toFirstHour minute second)) }
  evalOutputs (openSession (recompute s))

/-- START (R185, R186). -/
def execStart (minute second : Byte) (s : State) : Result :=
  request s 0x02 [minute, second] fun s =>
    if s.mode ≠ .setup then answerOnly s 0x02 .wrongState
    else if 59 < minute.toNat ∨ 59 < second.toNat then answerOnly s 0x02 .badValue
    else
      match configFault s with
      | some (item, index) => respond s 0x02 .badConfig [byte item, byte index]
      | none => answerOnly (startEffects s minute.toNat second.toNat) 0x02 .ok

/-- RESTART (R187): taken by the sequencer, which aborts a keydown, and by the arbiter; held until it takes effect. -/
def execRestart (s : State) : Result :=
  request s 0x03 [] fun s =>
    if s.mode = .setup then answerOnly s 0x03 .wrongState
    else if s.host.restartHeld then answerOnly s 0x03 .busy
    else closeEvent (abort (s.setHost { s.host with restartHeld := true }) .restart)

/-- Neither the sequencer nor the arbiter holds the RESTART (R168, R90). -/
def restartReady (s : State) : Bool :=
  s.host.restartHeld && !s.key.state.busy && !allPorts.any (keyedHolder s)

/-- What a RESTART does to the bus controller (R36): the queue emptied, sequence 0, the next epoch; the assembly is kept. -/
def restartBus (s : State) : State :=
  s.setBus { s.bus with queue := [], driving := false, sequence := 0, epoch := s.bus.epoch + 1 }

/-- Every record that a RESTART resets (R187). -/
def restartRecords (s : State) : State :=
  (((((restartBus s).setLearned resetLearned).setTracker
    { s.tracker with peers := resetPeers, isolated := false, sentSince := false }).setArb Arbiter.reset).setSel
    SelectionUnit.reset).setTok Tokens.reset |>.setBids resetBids

/-- The effects of a RESTART at the moment it takes effect (R187). -/
def restartEffects (s : State) : State :=
  let s := (restartRecords s).setHost { s.host with restartHeld := false }
  answerOnly (evalOutputs (openSession (recompute (beginListenIn s)))) 0x03 .ok

/-- RESTART_TAKES_EFFECT (R187). -/
def execRestartTakesEffect (s : State) : Result :=
  .next (if !s.inReset && restartReady s then restartEffects s else s)

/-! ### Selection requests -/

/-- Tests 1 to 3 of R95, with BUSY while a RESTART is held (R181): the status that turns a request away, or none. -/
def selectionRefusal (s : State) (needsBand : Bool) : Option Status :=
  if s.mode ≠ .active then some .wrongState
  else if s.cfg.role = .tower then some .notPosition
  else if needsBand ∧ s.band.decoded = 0 then some .noBand
  else none

/-- A single choice as the event of R94. -/
def applyChoice (s : State) (c : Nat) : State :=
  if isTxChoice c then applyChoices s (some c) none else applyChoices s none (some c)

/-- The record that a choice is for (R95). -/
def recordOfChoice (c : Nat) : SelName := if isTxChoice c then .tx else .rx

/-- SELECT (R95). A retry pushes the pair of choices as R99 says: nothing only where it is on top already (DESIGN CHOICE, log entry
48). -/
def execSelect (choice : Byte) (s : State) : Result :=
  request s 0x04 [choice] fun s =>
    let c := choice.toNat
    if s.host.restartHeld then answerOnly s 0x04 .busy
    else if Config.follow < c then answerOnly s 0x04 .badValue
    else
      match selectionRefusal s true with
      | some status => answerOnly s 0x04 status
      | none =>
        if s.key.state.busy then answerOnly (putSlot s c false) 0x04 .pending
        else if alreadyHolds (s.selection (recordOfChoice c)) c then answerOnly s 0x04 .ok
        else answerOnly (closeEvent (applyChoice (push s s.band.decoded) c)) 0x04 .ok

/-- RECALL (R96). -/
def execRecall (s : State) : Result :=
  request s 0x05 [] fun s =>
    if s.host.restartHeld then answerOnly s 0x05 .busy
    else
      match selectionRefusal s true, (s.sel.memory[s.band.decoded]).head? with
      | some status, _ => answerOnly s 0x05 status
      | none, none => answerOnly s 0x05 .empty
      | none, some pair =>
        let s' := pop s s.band.decoded
        if s.key.state.busy then answerOnly (putSlot (putSlot s' pair.1 true) pair.2 true) 0x05 .pending
        else
          answerOnly (closeEvent (applyChoices s' (unlessHeld s.sel.tx (some pair.1)) (unlessHeld s.sel.rx (some pair.2))))
            0x05 .ok

/-- The scope of a RELEASE (R182). -/
def scopeOf : Nat → Option Scope
  | 0 => some .rx
  | 1 => some .tx
  | 2 => some .all
  | _ => none

/-- RELEASE (R97). -/
def execRelease (scope : Byte) (s : State) : Result :=
  request s 0x06 [scope] fun s =>
    if s.host.restartHeld then answerOnly s 0x06 .busy
    else
      match scopeOf scope.toNat, selectionRefusal s false with
      | none, _ => answerOnly s 0x06 .badValue
      | some _, some status => answerOnly s 0x06 status
      | some scope, none =>
        if s.sel.pendingRelease.isSome then answerOnly s 0x06 .busy
        else if s.key.state.busy then answerOnly (putRelease s scope) 0x06 .pending
        else
          let s' := closeEvent (reofferFreed s (carryOutRelease s scope))
          respond s' 0x06 .ok [byte s'.sel.actualScope.number]

/-! ### Peers and ports -/

/-- A node field that names a peer of the station: not the own number, and less than N (R52, R66). -/
def peerField (s : State) (b : Byte) : Option Node :=
  match nodeField b with
  | some p => if p = s.node ∨ s.cfg.nodes ≤ p.val then none else some p
  | none => none

/-- EVICT (R52). -/
def execEvict (node : Byte) (s : State) : Result :=
  request s 0x07 [node] fun s =>
    if s.host.restartHeld then answerOnly s 0x07 .busy
    else if s.mode = .setup then answerOnly s 0x07 .wrongState
    else
      match peerField s node with
      | none => answerOnly s 0x07 .badValue
      | some p =>
        match (s.peer p).state with
        | .silent => answerOnly (closeEvent (peerGone s p)) 0x07 .ok
        | .current | .stale => answerOnly s 0x07 .wrongState
        | .absent | .gone => answerOnly s 0x07 .ok

/-- A port field that names a configured port (R80). -/
def configuredField (s : State) (b : Byte) : Option Port :=
  match portField b with
  | some p => if (s.cfg.antennas[p]).isSome then some p else none
  | none => none

/-- DISABLE (R80). -/
def execDisable (port : Byte) (s : State) : Result :=
  request s 0x08 [port] fun s =>
    if s.host.restartHeld then answerOnly s 0x08 .busy
    else if s.mode = .setup then answerOnly s 0x08 .wrongState
    else
      match configuredField s port with
      | none => answerOnly s 0x08 .badValue
      | some p =>
        if (s.port p).disabled then answerOnly s 0x08 .ok
        else answerOnly (closeEvent (disablePort s p)) 0x08 .ok

/-- ENABLE (R81). -/
def execEnable (port : Byte) (s : State) : Result :=
  request s 0x09 [port] fun s =>
    if s.host.restartHeld then answerOnly s 0x09 .busy
    else if s.mode = .setup then answerOnly s 0x09 .wrongState
    else
      match configuredField s port with
      | none => answerOnly s 0x09 .badValue
      | some p => answerOnly (s.setPort p { s.port p with disabled := false }) 0x09 .ok

/-! ### Reads -/

/-- STATUS (R189). -/
def execStatus (s : State) : Result := request s 0x0A [] fun s => respond s 0x0A .ok (statusBody s)

/-- NOTICES (R173). -/
def execNotices (s : State) : Result :=
  request s 0x0B [] fun s =>
    respond (evalAlert (s.setRep { s.rep with flags := 0 })) 0x0B .ok (noticesBody s.rep)

/-- VIEW (R66). The free values of an ABSENT record are used up. -/
def execView (node : Byte) (s : State) : Result :=
  request s 0x0C [node] fun s =>
    if s.mode = .setup then answerOnly s 0x0C .wrongState
    else
      match peerField s node with
      | none => answerOnly s 0x0C .badValue
      | some p =>
        respond (if (s.peer p).state = .absent then s.setFreeIndex (s.freeIndex + 3) else s) 0x0C .ok (viewBody s p)

/-- CATALOGUE (R12). The known flag is a flag byte (log entry 51). -/
def execCatalogueRequest (node index : Byte) (s : State) : Result :=
  request s 0x0D [node, index] fun s =>
    match nodeField node with
    | none => answerOnly s 0x0D .badValue
    | some n =>
      if 15 < index.toNat then answerOnly s 0x0D .badValue
      else
        let c := catalogueOf s n
        let front := [flagByte c.known, byte c.descriptors.length]
        match c.known, c.descriptors[index.toNat]? with
        | true, some d => respond s 0x0D .ok (front ++ d.bytes)
        | _, _ => respond s 0x0D .empty front

/-! ### Reporting -/

/-- SNAPSHOT (R176). -/
def execSnapshot (clear : Byte) (s : State) : Result :=
  request s 0x0E [clear] fun s =>
    if 1 < clear.toNat then answerOnly s 0x0E .badValue
    else
      answerOnly (s.setRep { s.rep with
        holding := s.rep.live
        snapshotTick := some s.now
        live := if clear = 1 then Counters.zero else s.rep.live }) 0x0E .ok

/-- COUNTERS (R177). -/
def execCounters (s : State) : Result := request s 0x0F [] fun s => respond s 0x0F .ok (countersBody s.rep)

/-- FAULTS (R179). The valid flag is a flag byte (log entry 51). -/
def execFaults (node : Byte) (s : State) : Result :=
  request s 0x10 [node] fun s =>
    match nodeField node with
    | none => answerOnly s 0x10 .badValue
    | some n =>
      match s.rep.faults[n] with
      | some f => respond s 0x10 .ok (flagByte true :: faultBytes f)
      | none => respond s 0x10 .empty [flagByte false]

/-- FAULT_CLEAR (R179). -/
def execFaultClear (node : Byte) (s : State) : Result :=
  request s 0x11 [node] fun s =>
    match nodeField node with
    | none => answerOnly s 0x11 .badValue
    | some n => answerOnly (s.setRep { s.rep with faults := s.rep.faults.set n none }) 0x11 .ok

/-- MASK (R174). -/
def execMask (mask : BitVec 16) (enable : Byte) (s : State) : Result :=
  request s 0x12 (bytes2 mask ++ [enable]) fun s =>
    if 4095 < mask.toNat ∨ 1 < enable.toNat then answerOnly s 0x12 .badValue
    else
      answerOnly (evalAlert (s.setRep { s.rep with mask := mask.truncate 12, enabled := enable == 1#8 })) 0x12 .ok

/-! ### Events of the host port -/

/-- BAD_REQUEST (R180): bytes that leave a record open, or close a bad one. -/
def execBadRequest (bytes : List Byte) (framingError : Bool) (s : State) : Result :=
  .next (takeBytes s bytes framingError)

/-- HOST_RECORD_GAP (R180): the record that is open is answered, or a discard ends. Other bytes than those that are open are
not what the gap finds, and change nothing (log entry 20). -/
def execHostRecordGap (bytes : List Byte) (s : State) : Result :=
  .next (if gapDue s && bytes == s.host.record then endGap s else s)

/-- HOST_REPLY_SENT (R181): the reply being sent is outstanding no more, and the next one due begins. -/
def execHostReplySent (s : State) : Result :=
  .next (if s.inReset then s else s.setHost { s.host with replies := s.host.replies.tail })

end Sys2Proof.Machine
end

