-- ==== Sys2Proof/Machine/LineCommands.lean ====
section
/-! DEFINITION. The input lines: reset, band lines and PTT (10 R188, 01 R14, 08 R153–R163). -/

namespace Sys2Proof.Machine

/-! ### Reset (R188) -/

/-- HARD_RESET (R188): everything but the queue of commands. The band and PTT lines keep their levels. -/
def execHardReset (straps : BitVec 3) (byLine : Bool) (s : State) : Result :=
  .next (((State.hardReset { s.lines with straps := straps } byLine).setPending s.pending).setFreeIndex s.freeIndex)

/-- RESET_RELEASED (R188): the hold ends and the node operates from its hard-reset state. -/
def execResetReleased (s : State) : Result := .next (s.setInReset false)

/-! ### Band lines (R14) -/

/-- The band lines sampled: a sample that differs from the candidate becomes the new candidate (R14). -/
def sampleBand (s : State) : State :=
  if s.lines.band = s.band.candidate then s
  else s.setBand { s.band with candidate := s.lines.band, start := s.now }

/-- The decoding of a settled code (R13). -/
def decodeBand (code : BitVec 4) : Band := if h : code.toNat < 8 then ⟨code.toNat, h⟩ else 0

/-- The candidate settles now (R14): 20 ticks have passed since its start and it is not the settled code already. -/
def settles (s : State) : Bool :=
  s.band.candidate != s.band.settled && reached (after s.band.start Config.settleTicks) s.now

/-- This tick's one sample has left its mark: it is the candidate's start, or the candidate settled on it (R14). -/
def bandSampled (s : State) : Bool :=
  s.band.start == s.now
    || (s.band.candidate == s.band.settled && after s.band.start Config.settleTicks == s.now)

/-- BAND_LINES_CHANGE (R14). The new code is the tick's one sample while a sample of the tick has left no mark yet; else the next
tick samples it (DESIGN CHOICE, log entry 36). -/
def execBandLinesChange (code : BitVec 4) (s : State) : Result :=
  let sampled := s.inReset || bandSampled s
  let s := s.setLines { s.lines with band := code }
  .next (if sampled then s else sampleBand s)

/-- A band-change event (R14) handed on: in ACTIVE the pending work is dropped (R98; log entry 10), the sequencer aborts, the
token unit drops, the merger recomputes outside SETUP and the selection unit of a position changes bands (R100, R127, R147).
A deferral of an own port that the DROP ends is carried out with the new band already decoded, before the merger's own
recompute (DESIGN CHOICE, log entry 41). -/
def bandChange (s : State) (old new : Band) : State :=
  let acts := s.mode == .active && s.cfg.role == .position
  let s := if acts then dropPending s else s
  let s := carryOutDeferred (bandChangeTokens (abort s .bandChange))
  let s := if s.mode = .setup then s else recompute s
  closeEvent (if acts then bandChangeSelections s old new else s)

/-- The band the decoder takes from a settled code: NONE is held at a tower (R15). -/
def bandAfterSettle (s : State) : Band := if s.isTower then s.band.decoded else decodeBand s.band.candidate

/-- BAND_SETTLE (R14). -/
def execBandSettle (s : State) : Result :=
  if !s.inReset && settles s then
    let old := s.band.decoded
    let new := bandAfterSettle s
    let s := s.setBand { s.band with settled := s.band.candidate, decoded := new }
    .next (if new = old then s else bandChange s old new)
  else .next s

/-! ### PTT (R153, R155, R163) -/

/-- Two consecutive samples both show a level other than the debounced one (R153). -/
def pttChanges (k : Keying) (level : Bool) : Bool := k.sample == level && k.previous == level && k.level != level

/-- A PTT press is due (R153). -/
def pressDue (s : State) : Bool := !s.inReset && pttChanges s.key true

/-- A PTT release is due (R153). -/
def releaseDue (s : State) : Bool := !s.inReset && pttChanges s.key false

/-- The debounced level changes (R153). -/
def setPtt (s : State) (level : Bool) : State := s.setKey { s.key with level := level }

/-- The level of the PTT pin changes; the next samples show it (R153). -/
def movePtt (s : State) (level : Bool) : State := s.setLines { s.lines with ptt := level }

/-- PTT_PRESS (R155): a press is taken in RECEIVE; at a tower it reaches no state (R169). While no press is due the row moves
the pin alone (DESIGN CHOICE, log entry 46). -/
def execPttPress (s : State) : Result :=
  if pressDue s then
    let s := setPtt s true
    .next (closeEvent (if !s.isTower && s.key.state == .receive then takePress s else s))
  else .next (movePtt s true)

/-- A release handled by the state it is taken in (R163). -/
def takeRelease (s : State) : State :=
  match s.key.state with
  | .receive | .stepDown => s
  | .keyWait => enterReceive (unkeyTokens s)
  | .stepUp | .transmit => enterTail (unkeyTokens s) .unkey
  | .lockout => enterReceive s

/-- PTT_RELEASE (R163). While no release is due the row moves the pin alone (DESIGN CHOICE, log entry 46). -/
def execPttRelease (s : State) : Result :=
  if releaseDue s then
    let s := setPtt s false
    .next (closeEvent (if s.isTower then s else takeRelease s))
  else .next (movePtt s false)

end Sys2Proof.Machine
end

