-- ==== Sys2Proof/Machine/KeyCommands.lean ====
section
/-! DEFINITION. The timed steps of the keying sequencer (08 R159, R162, R164). A step that is not due changes nothing (log
entry 1). -/

namespace Sys2Proof.Machine

/-- KEY_WAIT_END is due (R159). -/
def keyWaitEnds (s : State) : Bool := !s.inReset && s.key.state == .keyWait && keyWaitOver s

/-- KEY_WAIT_END (R159, R162). -/
def execKeyWaitEnd (s : State) : Result := .next (if keyWaitEnds s then evalOutputs (beginSteps s) else s)

/-- AMP_STEP is due (R162, step 2). -/
def ampStepDue (s : State) : Bool :=
  !s.inReset && s.key.state == .stepUp && !s.key.amp && dueAt s.key.ampAt s.now

/-- AMP_STEP (R162). -/
def execAmpStep (s : State) : Result :=
  .next (if ampStepDue s then s.setKey { s.key with amp := true, ampAt := none } else s)

/-- INHIBIT_STEP is due (R162, step 3): the steps keep their order. -/
def inhibitStepDue (s : State) : Bool :=
  !s.inReset && s.key.state == .stepUp && s.key.amp && dueAt s.key.lastAt s.now

/-- INHIBIT_STEP (R162). -/
def execInhibitStep (s : State) : Result :=
  .next (if inhibitStepDue s then s.setKey { s.key.rest .transmit with inhibit := false } else s)

/-- TAIL_AMP_STEP is due (R164). -/
def tailAmpStepDue (s : State) : Bool := !s.inReset && s.key.state == .stepDown && dueAt s.key.ampAt s.now

/-- TAIL_AMP_STEP (R164). -/
def execTailAmpStep (s : State) : Result :=
  .next (if tailAmpStepDue s then s.setKey { s.key with amp := false, ampAt := none } else s)

/-- TAIL_END is due (R164): the tail's AMP step has been taken. -/
def tailEndDue (s : State) : Bool :=
  !s.inReset && s.key.state == .stepDown && s.key.ampAt.isNone && dueAt s.key.lastAt s.now

/-- A press found at the end of an unkey tail is taken in the same tick (R164). -/
def pressAfter (t : Tail) (s : State) : State := if t = .unkey ∧ s.key.level then takePress s else s

/-- TAIL_END (R164). -/
def execTailEnd (s : State) : Result :=
  match tailEndDue s, s.key.tail with
  | true, some t => .next (closeEvent (pressAfter t (endTail s t)))
  | _, _ => .next s

end Sys2Proof.Machine
end

