-- ==== Sys2Proof/Machine/BusCommands.lean ====
section
/-! DEFINITION. The events of the station bus that need no check of a frame: the free bus, attempts and completion (02). -/

namespace Sys2Proof.Machine

/-! ### The free bus (R19, R24) -/

/-- What is still open when the bus becomes free is rejected: a truncated frame, and a stray fragment (R24, R25). -/
def rejectOpen (s : State) : State := closeStray (if s.bus.openFrame.isSome then rejectOne s else s)

/-- BUS_FREE (R19, R24): the idle count runs from 0. It cannot come while the node drives. -/
def execBusFree (s : State) : Result :=
  if s.running && !s.bus.driving && !s.bus.free then
    let s := rejectOpen s
    .next (s.setBus { s.bus with openFrame := none, afterComplete := false, free := true, idle := 0, idleRest := 0 })
  else .next s

/-! ### Attempts (R28, R35) -/

/-- The number given to an ASK is reported to its selection record (R35, R107). -/
def reportNumber (s : State) (f : QueuedFrame) (number : Byte) : State :=
  match f.content with
  | .ask _ use _ _ =>
    if f.owned then s.setSelection (recordFor use) { s.selection (recordFor use) with askSequence := some number } else s
  | _ => s

/-- The head frame with its attempt counted and, on its first attempt, its number given (R30, R35). -/
def attempted (f : QueuedFrame) (own : Byte) : QueuedFrame :=
  { f with attempts := f.attempts + 1, sequence := if f.attempts = 0 then some own else f.sequence }

/-- An attempt of the head frame `f` before the rest `t` of the queue (R28, R30, R35). -/
def startAttempt (s : State) (f : QueuedFrame) (t : List QueuedFrame) : State :=
  let own := s.bus.sequence
  let s := s.setBus { s.bus with
    queue := attempted f own :: t
    driving := true
    sequence := if f.attempts = 0 then own + 1 else own
    free := false
    idle := max s.bus.idle (accessGap s.node f)
    idleRest := 0
    openFrame := some [byte f.content.kind.code] }
  if f.attempts = 0 then reportNumber s f own else s

/-- FRAME_ATTEMPT_START (R28): the idle count has reached the head's access gap. -/
def execFrameAttemptStart (s : State) : Result :=
  match attemptDue s, s.bus.queue with
  | true, f :: t => .next (startAttempt s f t)
  | _, _ => .next s

/-! ### Reports of a frame (R30, R31) -/

/-- The node that a frame is addressed to, as its low three bits. -/
def addressee (f : QueuedFrame) : Node := ⟨f.destination.toNat % 8, by omega⟩

/-- The token unit awaits the BID of a running bid (R113). -/
def awaitsBid (s : State) : Bool := s.tok.state == .bidding && s.tok.awaitedBid

/-- A not-sent report of a frame given up, to the block that awaits it (R30, R68, R116, R123, R161). -/
def reportLost (s : State) (f : QueuedFrame) : State :=
  if f.owned then
    match f.content with
    | .bid _ _ _ => if awaitsBid s then bidLost s else s
    | .txon _ _ => txonLost s
    | .grant p _ _ => grantReported s (addressee f) p
    | _ => s
  else s

/-- The completion of a bid reported to the token unit and the sequencer (R116, R158). -/
def bidSent (s : State) : State :=
  startLead (s.setTok { s.tok with awaitedBid := false, windowEnd := some (after s.now s.window) }) .awaitsBid

/-- A completion, to the block that awaits it (R31, R68, R116, R158). -/
def reportSent (s : State) (f : QueuedFrame) : State :=
  if f.owned then
    match f.content with
    | .bid _ _ _ => if awaitsBid s then bidSent s else s
    | .txon _ _ => startLead s .awaitsTxon
    | .grant p _ _ => grantReported s (addressee f) p
    | _ => s
  else s

/-- The head frame given up after its last attempt (R30). -/
def giveUpFrame (s : State) (f : QueuedFrame) (t : List QueuedFrame) : State :=
  let s := (s.setBus { s.bus with queue := t }).count .linkFailures 1
  closeEvent (reportLost (ownFrameLost s) f)

/-- A sent frame removed and counted (R31); the bus stays busy until it has been idle (R19). -/
def sentFrame (s : State) (t : List QueuedFrame) : State :=
  (s.setBus { s.bus with queue := t, driving := false, openFrame := none, afterComplete := true, free := false }).count
    .framesSent 1

/-- FRAME_SENT (R31). -/
def execFrameSent (s : State) : Result :=
  match s.running && s.bus.driving, s.bus.queue with
  | true, f :: t => .next (reportSent (ownFrameSent (sentFrame s t)) f)
  | _, _ => .next s

end Sys2Proof.Machine
end

