-- ==== Sys2Proof/Machine/FrameCommands.lean ====
section
/-! DEFINITION. The frames: the checks of a complete frame (02 R25–R27), what each kind brings in the order of R27, and one
meaning for each row. A row's frame that the checks put on another row changes nothing under this one, and no frame closes
complete while the node drives its own (log entry 1). -/

namespace Sys2Proof.Machine

/-- An accepted frame leaves the assembly and is counted (R25). -/
def accept (s : State) (f : WireFrame) : State := (closeFrame s f).count .framesReceived 1

/-- The arrival of a frame at its sender's record (R41). -/
def arrivalAt (s : State) (p : Node) (f : WireFrame) (isHello : Bool) : Arrival :=
  arrivalOf (s.peer p) isHello (sourceEpoch f) f.sequence

/-- The tracker takes a frame as far as every mark goes (R41). -/
def trackFrame (s : State) (p : Node) (f : WireFrame) (k : FrameKind) : State :=
  track s p (arrivalAt s p f (k == .hello)) k (sourceEpoch f) f.sequence (k == .roll)

/-- The tracker takes a frame that counts as neither a ROLL nor a HELLO (R26, R41). -/
def trackPlain (s : State) (p : Node) (f : WireFrame) (k : FrameKind) : State :=
  track s p (arrivalAt s p f false) k (sourceEpoch f) f.sequence false

/-- A good frame accepted and tracked (R25, R41). -/
def takeFrame (s : State) (p : Node) (f : WireFrame) (c : Content) : State := trackFrame (accept s f) p f c.kind

/-! ### What each kind of frame brings -/

/-- A rejected frame is counted and nothing else (R25). -/
def hearRejected (s : State) (f : WireFrame) : State := rejectOne (closeFrame s f)

/-- A frame addressed elsewhere is counted and tracked (R27, R41). -/
def hearElsewhere (s : State) (p : Node) (f : WireFrame) (k : FrameKind) : State :=
  closeEvent (trackPlain (accept s f) p f k)

/-- A frame with bad content is counted, recorded as a fault and tracked (R26, R41). -/
def hearBad (s : State) (p : Node) (f : WireFrame) (k : FrameKind) : State :=
  closeEvent (trackPlain ((accept s f).recordFault p .badContent k f.sequence) p f k)

/-- A HELLO at the tracker and its owners (R46, R8, R86, R109, R122). -/
def takeHello (s : State) (p : Node) (f : WireFrame) (digest : BitVec 16) (ds : List Descriptor) : State :=
  let s := judgeDigest s p digest .hello f.sequence
  peerRestarted (learn (callCatalogue s) p ds) p

/-- A HELLO (R46). -/
def hearHello (s : State) (p : Node) (f : WireFrame) (digest : BitVec 16) (ds : List Descriptor) : State :=
  closeEvent (takeHello (takeFrame s p f (.hello digest ds)) p f digest ds)

/-- A CATALOGUE (R8). -/
def hearCatalogue (s : State) (p : Node) (f : WireFrame) (digest : BitVec 16) (ds : List Descriptor) : State :=
  closeEvent (learn (takeFrame s p f (.catalogue digest ds)) p ds)

/-- A ROLL fills the record (R47, R48, R53). Whether it is trusted is judged from the record it reached. -/
def fillRoll (s : State) (p : Node) (f : WireFrame) (r : Roll) (trust : Bool) : State :=
  judgeDigest (s.setPeer p (rollRecord (s.peer p) r trust)) p r.digest .roll f.sequence

/-- The arbiter's use of a ROLL (R79, R82–R84): the deferrals it ends, the peer's grants reconciled and its claims answered,
and behind all their FREEs the re-offers of the ports freed (R78, R91; log entry 19). -/
def arbiterRoll (s : State) (p : Node) (f : WireFrame) (r : Roll) : State :=
  let freed := endDeferrals s
  reofferFreed s (if reconciles s then answerClaims (reconcile freed p r f.sequence) p r else freed)

/-- A ROLL at its owners (R27): the catalogue's want check (R11), the arbiter, the selection unit (R108, R109) and the token
unit (R129). -/
def rollOwners (s : State) (p : Node) (f : WireFrame) (r : Roll) : State :=
  let s := if r.want.getLsbD s.node.val then callCatalogue s else s
  let s := arbiterRoll s p f r
  let s := if r.active then retrySelections s p else s
  yieldTest (abortIfTxLost s) p .roll f.sequence

/-- A ROLL (R47). -/
def hearRoll (s : State) (p : Node) (f : WireFrame) (r : Roll) : State :=
  let trust := trusted (s.peer p) (arrivalAt s p f false)
  closeEvent (rollOwners (fillRoll (takeFrame s p f (.roll r)) p f r trust) p f r)

/-- An ASK (R71). -/
def hearAsk (s : State) (p : Node) (f : WireFrame) (port : Port) (use : Use) (band : Band) (cls : Class) : State :=
  closeEvent (judgeAsk (takeFrame s p f (.ask port use band cls)) p port use band cls)

/-- A FREE with cause release (R76). -/
def hearRelease (s : State) (p : Node) (f : WireFrame) (port : Port) (use : Use) : State :=
  let taken := takeFrame s p f (.free port use .release)
  closeEvent (reofferFreed taken (judgeFree taken p port use))

/-- A GRANT that no record takes is answered with a FREE (R103). -/
def takeOrReturn (s : State) (p : Node) (port : Port) (use : Use) (settle : Nat) : State :=
  let r := takeGrant s (antennaAt p port) use settle
  if r.2 then r.1 else sendTo r.1 p (.free port use .release)

/-- A GRANT (R102, R103). -/
def hearGrant (s : State) (p : Node) (f : WireFrame) (port : Port) (use : Use) (settle : Nat) : State :=
  closeEvent (takeOrReturn (takeFrame s p f (.grant port use settle)) p port use settle)

/-- A WAIT (R104). -/
def hearWait (s : State) (p : Node) (f : WireFrame) (port : Port) (place : Nat) : State :=
  closeEvent (takeWait (takeFrame s p f (.wait port place)) (antennaAt p port) place)

/-- A REFUSE (R105). -/
def hearRefuse (s : State) (p : Node) (f : WireFrame) (port : Port) (reason : RefuseReason) : State :=
  closeEvent (takeRefuse (takeFrame s p f (.refuse port reason)) (antennaAt p port) reason)

/-- A FREE with another cause than release (R106). -/
def hearFreeFromHome (s : State) (p : Node) (f : WireFrame) (port : Port) (use : Use) (cause : FreeCause) : State :=
  closeEvent (takeFreeFromHome (takeFrame s p f (.free port use cause)) (antennaAt p port) use cause)

/-- A BID (R121). -/
def hearBid (s : State) (p : Node) (f : WireFrame) (band : Band) (cls : Class) (a : Antenna) : State :=
  closeEvent (recordBid (takeFrame s p f (.bid band cls a)) p band cls a)

/-- An announcement in its sender's record, and the bid it ends (R49, R122). -/
def takeAnnouncement (s : State) (p : Node) (c : Content) : State :=
  (s.setPeer p (announcedRecord (s.peer p) c)).removeBid p

/-- A TXON (R49, R129). -/
def hearTxon (s : State) (p : Node) (f : WireFrame) (band : Band) (a : Antenna) : State :=
  closeEvent (yieldTest (takeAnnouncement (takeFrame s p f (.txon band a)) p (.txon band a)) p .txon f.sequence)

/-- A TXOFF (R49, R129). -/
def hearTxoff (s : State) (p : Node) (f : WireFrame) (band : Band) (a : Antenna) : State :=
  closeEvent (yieldTest (takeAnnouncement (takeFrame s p f (.txoff band a)) p (.txoff band a)) p .txoff f.sequence)

/-- A DROP (R49). -/
def hearDrop (s : State) (p : Node) (f : WireFrame) (band : Band) : State :=
  closeEvent (takeAnnouncement (takeFrame s p f (.drop band)) p (.drop band))

/-! ### The checks (R25–R27) -/

/-- A good frame at the owners of its kind (R27). -/
def hear (s : State) (p : Node) (f : WireFrame) : Content → State
  | .hello digest ds => hearHello s p f digest ds
  | .catalogue digest ds => hearCatalogue s p f digest ds
  | .roll r => hearRoll s p f r
  | .ask port use band cls => hearAsk s p f port use band cls
  | .grant port use settle => hearGrant s p f port use settle
  | .wait port place => hearWait s p f port place
  | .refuse port reason => hearRefuse s p f port reason
  | .free port use .release => hearRelease s p f port use
  | .free port use .revoke => hearFreeFromHome s p f port use .revoke
  | .free port use .reconcile => hearFreeFromHome s p f port use .reconcile
  | .free port use .notYours => hearFreeFromHome s p f port use .notYours
  | .bid band cls a => hearBid s p f band cls a
  | .txon band a => hearTxon s p f band a
  | .txoff band a => hearTxoff s p f band a
  | .drop band => hearDrop s p f band

/-- A complete frame at the checks (R25, R26). -/
def checkFrame (s : State) (f : WireFrame) : State :=
  match verdict s f with
  | .rejected => hearRejected s f
  | .elsewhere p k => hearElsewhere s p f k
  | .bad p k => hearBad s p f k
  | .good p c => hear s p f c

/-! ### The rows -/

/-- The node hears a peer's frame to its end: it operates on the bus (R19) and drives nothing itself (R29). -/
def State.listens (s : State) : Bool := s.running && !s.bus.driving

/-- The verdict on a frame that the node hears (R25). -/
def verdictNow (s : State) (f : WireFrame) : Option Verdict := if s.listens then some (verdict s f) else none

/-- The source and the content of a frame that is good here, none for any other. -/
def goodFrame (s : State) (f : WireFrame) : Option (Node × Content) :=
  match verdictNow s f with
  | some (.good p c) => some (p, c)
  | _ => none

/-- FRAME_REJECTED (R25). -/
def execFrameRejected (f : WireFrame) (s : State) : Result :=
  match verdictNow s f with
  | some .rejected => .next (hearRejected s f)
  | _ => .next s

/-- FRAME_ADDRESSED_ELSEWHERE (R27, R41). -/
def execFrameAddressedElsewhere (f : WireFrame) (s : State) : Result :=
  match verdictNow s f with
  | some (.elsewhere p k) => .next (hearElsewhere s p f k)
  | _ => .next s

/-- FRAME_CONTENT_BAD (R26, R41). -/
def execFrameContentBad (f : WireFrame) (s : State) : Result :=
  match verdictNow s f with
  | some (.bad p k) => .next (hearBad s p f k)
  | _ => .next s

/-- FRAME_RECEIVED_HELLO (R46). -/
def execFrameReceivedHello (f : WireFrame) (s : State) : Result :=
  match goodFrame s f with
  | some (p, .hello digest ds) => .next (hearHello s p f digest ds)
  | _ => .next s

/-- FRAME_RECEIVED_CATALOGUE (R8). -/
def execFrameReceivedCatalogue (f : WireFrame) (s : State) : Result :=
  match goodFrame s f with
  | some (p, .catalogue digest ds) => .next (hearCatalogue s p f digest ds)
  | _ => .next s

/-- FRAME_RECEIVED_ROLL (R47). -/
def execFrameReceivedRoll (f : WireFrame) (s : State) : Result :=
  match goodFrame s f with
  | some (p, .roll r) => .next (hearRoll s p f r)
  | _ => .next s

/-- FRAME_RECEIVED_ASK (R71). -/
def execFrameReceivedAsk (f : WireFrame) (s : State) : Result :=
  match goodFrame s f with
  | some (p, .ask port use band cls) => .next (hearAsk s p f port use band cls)
  | _ => .next s

/-- FRAME_RECEIVED_FREE_RELEASE (R76). -/
def execFrameReceivedFreeRelease (f : WireFrame) (s : State) : Result :=
  match goodFrame s f with
  | some (p, .free port use .release) => .next (hearRelease s p f port use)
  | _ => .next s

/-- FRAME_RECEIVED_GRANT (R102, R103). -/
def execFrameReceivedGrant (f : WireFrame) (s : State) : Result :=
  match goodFrame s f with
  | some (p, .grant port use settle) => .next (hearGrant s p f port use settle)
  | _ => .next s

/-- FRAME_RECEIVED_WAIT (R104). -/
def execFrameReceivedWait (f : WireFrame) (s : State) : Result :=
  match goodFrame s f with
  | some (p, .wait port place) => .next (hearWait s p f port place)
  | _ => .next s

/-- FRAME_RECEIVED_REFUSE (R105). -/
def execFrameReceivedRefuse (f : WireFrame) (s : State) : Result :=
  match goodFrame s f with
  | some (p, .refuse port reason) => .next (hearRefuse s p f port reason)
  | _ => .next s

/-- FRAME_RECEIVED_FREE_FROM_HOME (R106). -/
def execFrameReceivedFreeFromHome (f : WireFrame) (s : State) : Result :=
  match goodFrame s f with
  | some (p, .free port use cause) => .next (if cause = .release then s else hearFreeFromHome s p f port use cause)
  | _ => .next s

/-- FRAME_RECEIVED_BID (R121). -/
def execFrameReceivedBid (f : WireFrame) (s : State) : Result :=
  match goodFrame s f with
  | some (p, .bid band cls a) => .next (hearBid s p f band cls a)
  | _ => .next s

/-- FRAME_RECEIVED_TXON (R49, R129). -/
def execFrameReceivedTxon (f : WireFrame) (s : State) : Result :=
  match goodFrame s f with
  | some (p, .txon band a) => .next (hearTxon s p f band a)
  | _ => .next s

/-- FRAME_RECEIVED_TXOFF (R49, R129). -/
def execFrameReceivedTxoff (f : WireFrame) (s : State) : Result :=
  match goodFrame s f with
  | some (p, .txoff band a) => .next (hearTxoff s p f band a)
  | _ => .next s

/-- FRAME_RECEIVED_DROP (R49). -/
def execFrameReceivedDrop (f : WireFrame) (s : State) : Result :=
  match goodFrame s f with
  | some (p, .drop band) => .next (hearDrop s p f band)
  | _ => .next s

end Sys2Proof.Machine
end

