-- ==== Sys2Proof/Machine/WireCommands.lean ====
section
/-! DEFINITION. The characters of the station bus: busy, characters collected, and a character read back as another (02 R19,
R24, R29). A frame that a character closes goes to the checks in the same command. -/

namespace Sys2Proof.Machine

/-! ### Characters (R19, R24) -/

/-- A frame that has just closed complete is checked and handed on (R24, R25, R27). -/
def checkClosed (s : State) : State :=
  match s.bus.complete.bind frameOfChars with
  | some f => checkFrame s f
  | none => s

/-- BUS_BUSY (R19, R24): the character is collected, and a frame it closes is checked. While the node drives, the assembly holds
what it drives. -/
def execBusBusy (framing : Bool) (b : Byte) (s : State) : Result :=
  if s.running then .next (if s.bus.driving then busyBus s else checkClosed (collect (busyBus s) framing b)) else .next s

/-- FRAMING_BIT_INSIDE_FRAME (R24, point 5). -/
def execFramingBitInsideFrame (b : Byte) (s : State) : Result :=
  if s.listens && s.bus.openFrame.isSome then .next (collect (busyBus s) true b) else .next s

/-! ### Read-back (R29, R30) -/

/-- A failed attempt (R29): driving stops, and what was on the wire stays in the assembly (log entry 32). A frame that it closes
is checked. -/
def attemptFails (s : State) (chars : List Byte) (index : Nat) (framing : Bool) (b : Byte) : State :=
  let openFrame := if index = 0 then none else some (chars.take index)
  checkClosed (collect (s.setBus { s.bus with driving := false, openFrame := openFrame, complete := none }) framing b)

/-- READ_BACK_MISMATCH (R29, R30): character `index` of the driven frame read back as another one. -/
def execReadBackMismatch (index : Nat) (framing : Bool) (b : Byte) (s : State) : Result :=
  match s.running && s.bus.driving, s.bus.queue with
  | true, f :: t =>
    let chars := wireChars (drivenFrame s f)
    match chars[index]? with
    | none => .next s
    | some c =>
      if framing = decide (index = 0) ∧ b = c then .next s
      else
        let s := attemptFails s chars index framing b
        .next (if f.attempts < Config.attemptLimit then s else giveUpFrame s f t)
  | _, _ => .next s

end Sys2Proof.Machine
end

