-- ==== Sys2Proof/Machine/TimerCommands.lean ====
section
/-! DEFINITION. The events that a tick brings: the ROLL beat, the peer and orphan timeouts, the end of listen-in, isolation,
deadlines, windows and boundaries. An event that is not due changes nothing (log entry 1). -/

namespace Sys2Proof.Machine

/-! ### ROLL (R38) -/

def rollDueNow (s : State) : Bool := s.running && dueAt s.bus.nextRoll s.now

/-- ROLL_DUE (R38). The beat goes on from the due tick. -/
def execRollDue (s : State) : Result :=
  match rollDueNow s, s.bus.nextRoll with
  | true, some t => .next (evalOutputs (queueRoll s t))
  | _, _ => .next s

/-! ### Peers (R50, R51) -/

/-- The silence of a peer is due (R50). -/
def silenceDue (s : State) (p : Node) : Bool :=
  s.running && p != s.node && ((s.peer p).state == .current || (s.peer p).state == .stale)
    && reached (silenceAt s p) s.now

/-- PEER_TIMEOUT (R50). -/
def execPeerTimeout (p : Node) (s : State) : Result := .next (if silenceDue s p then closeEvent (silence s p) else s)

/-- The end of a silent peer's orphan hold is due (R51). -/
def orphanDue (s : State) (p : Node) : Bool :=
  s.running && p != s.node && (s.peer p).state == .silent && dueAt (s.peer p).orphanEnd s.now

/-- ORPHAN_HOLD_EXPIRY (R51). -/
def execOrphanHoldExpiry (p : Node) (s : State) : Result :=
  .next (if orphanDue s p then closeEvent (peerGone s p) else s)

/-! ### Mode and isolation (R56, R58) -/

/-- The end of listen-in is due (R55, R56). -/
def listenInOver (s : State) : Bool :=
  s.running && s.mode == .listenIn && dueAt s.tracker.listenInEnd s.now

/-- ACTIVE begins, with a position's first selections (R56, R101). -/
def becomeActive (s : State) : State :=
  let s := (s.setMode .active).setTracker { s.tracker with listenInEnd := none }
  if s.cfg.role = .position ∧ s.band.decoded ≠ 0 then enterBand s s.band.decoded else s

/-- LISTEN_IN_END (R56). -/
def execListenInEnd (s : State) : Result := .next (if listenInOver s then closeEvent (becomeActive s) else s)

/-- No peer frame for one peer timeout while ACTIVE (R58). -/
def isolationDue (s : State) : Bool :=
  s.running && s.mode == .active && !s.tracker.isolated
    && reached (after s.tracker.lastPeerFrame s.peerTimeout) s.now

/-- ISOLATION_TIMEOUT (R58). -/
def execIsolationTimeout (s : State) : Result := .next (if isolationDue s then closeEvent (isolate s) else s)

/-! ### Selections (R107) -/

/-- A record's reply deadline is due (R107). -/
def deadlineDue (s : State) (name : SelName) : Bool :=
  s.running && (s.selection name).state == .asking && dueAt (s.selection name).deadline s.now

/-- A record failed at its deadline, with the fault against its home (R107). -/
def failDeadline (s : State) (name : SelName) : State :=
  let r := s.selection name
  let s := s.setSelection name (r.fail .noReply)
  match r.antenna with
  | some a => s.recordFault (homeOf a) .noReply .ask (r.askSequence.getD s.bus.sequence)
  | none => s

/-- REPLY_DEADLINE (R107). -/
def execReplyDeadline (name : SelName) (s : State) : Result :=
  .next (if deadlineDue s name then closeEvent (failDeadline s name) else s)

/-! ### Tokens (R118, R119, R122, R126) -/

/-- The window end is due (R118). -/
def windowDue (s : State) : Bool := s.running && s.tok.state == .bidding && dueAt s.tok.windowEnd s.now

/-- The outcome of the window count (R119). -/
def windowOutcome (s : State) (b : Band) (a : Antenna) : State :=
  if countWins s b then (if s.key.state = .keyWait then (keyTokens s b a).1 else freeTokens s)
  else if s.key.state = .keyWait then refuse (freeTokens s) .tokenBusy
  else freeTokens s

/-- WINDOW_END (R118, R119). -/
def execWindowEnd (s : State) : Result :=
  match windowDue s, s.tok.band, s.tok.antenna with
  | true, some b, some a => .next (closeEvent (windowOutcome s b a))
  | _, _, _ => .next s

/-- The expiry of a peer's bid record is due (R122). -/
def bidExpired (s : State) (p : Node) : Bool :=
  s.running &&
    match s.bids[p] with
    | some b => reached b.expiry s.now
    | none => false

/-- BID_RECORD_EXPIRY (R122). -/
def execBidRecordExpiry (p : Node) (s : State) : Result :=
  .next (if bidExpired s p then evalOutputs (s.removeBid p) else s)

/-- The hang end is due (R126). -/
def hangOver (s : State) : Bool := s.running && s.tok.state == .hanging && dueAt s.tok.hangEnd s.now

/-- HANG_END (R126). -/
def execHangEnd (s : State) : Result := .next (if hangOver s then closeEvent (dropTokens s) else s)

/-! ### Boundaries (R133, R149) -/

/-- HOUR_BOUNDARY (R133): the next boundary lies an hour after this one. -/
def execHourBoundary (s : State) : Result :=
  match s.inReset, s.gov.nextHour with
  | false, some t =>
    .next (if reached t s.now then s.setGov { s.gov with changes := 0, nextHour := some (after t 3600000) } else s)
  | _, _ => .next s

/-- A refresh of the relay chain is due (R149). -/
def refreshDue (s : State) : Bool := !s.inReset && reached s.drv.refreshAt s.now

/-- CHAIN_REFRESH (R149): the drive word is shifted again; no level, guard end or record changes. -/
def execChainRefresh (s : State) : Result :=
  .next (if refreshDue s then
    s.setDrv { s.drv with shift := some s.drv.word, refreshAt := after s.drv.refreshAt Config.refreshTicks } else s)

end Sys2Proof.Machine
end

