-- ==== Sys2Proof/Machine/Clock.lean ====
section
/-! DEFINITION. What an empty queue does: the next event that has fallen due is put into the queue, and when none is due one
tick passes (DESIGN CHOICE, log entry 2). -/

namespace Sys2Proof.Machine

/-! ### One tick -/

/-- A shift under way ends before the tick passes: its levels are clocked out and latched (R148; log entry 23). -/
def latchShift (s : State) : State :=
  match s.drv.shift with
  | some w => s.setDrv { s.drv with latched := latchedBy s.drv.latched w, shift := none }
  | none => s

/-- The PTT line sampled: the sample of the tick before is kept beside it (R153). -/
def samplePtt (s : State) : State := s.setKey { s.key with previous := s.key.sample, sample := s.lines.ptt }

/-- One tick passes (R188): the chain latches, the timebase and the idle count of a free bus count, and the band lines and PTT
are sampled. -/
def tick (s : State) : State :=
  let s := latchShift s
  samplePtt (sampleBand (countIdle (s.setNow (s.now + 1))))

/-! ### Events that have fallen due -/

/-- A row when its event is due. -/
def rowIf (due : Bool) (i : Instr) : Option Instr := if due then some i else none

/-- A contest-hour boundary is due (R133). -/
def hourDue (s : State) : Bool := !s.inReset && dueAt s.gov.nextHour s.now

/-- The first peer for which an event is due. -/
def firstPeer (due : Node → Bool) (row : Node → Instr) : Option Instr := (allNodes.find? due).map row

/-- The first event that has fallen due, in the order of log entry 2. -/
def nextDue (s : State) : Option Instr :=
  rowIf (!s.inReset && settles s) .bandSettle
  <|> rowIf (pressDue s) .pttPress
  <|> rowIf (releaseDue s) .pttRelease
  <|> rowIf (gapDue s) (.hostRecordGap s.host.record)
  <|> rowIf (hourDue s) .hourBoundary
  <|> firstPeer (silenceDue s) .peerTimeout
  <|> firstPeer (orphanDue s) .orphanHoldExpiry
  <|> rowIf (listenInOver s) .listenInEnd
  <|> rowIf (isolationDue s) .isolationTimeout
  <|> firstPeer (bidExpired s) .bidRecordExpiry
  <|> rowIf (deadlineDue s .tx) (.replyDeadline .tx)
  <|> rowIf (deadlineDue s .rx) (.replyDeadline .rx)
  <|> rowIf (windowDue s) .windowEnd
  <|> rowIf (hangOver s) .hangEnd
  <|> rowIf (keyWaitEnds s) .keyWaitEnd
  <|> rowIf (ampStepDue s) .ampStep
  <|> rowIf (inhibitStepDue s) .inhibitStep
  <|> rowIf (tailAmpStepDue s) .tailAmpStep
  <|> rowIf (tailEndDue s) .tailEnd
  <|> rowIf (!s.inReset && restartReady s) .restartTakesEffect
  <|> rowIf (rollDueNow s) .rollDue
  <|> rowIf (refreshDue s) .chainRefresh
  <|> rowIf (attemptDue s) .frameAttemptStart

/-- The step of an empty queue. While RESET is held nothing moves (log entry 8). -/
def idle (s : State) : State :=
  if s.inReset then s
  else
    match nextDue s with
    | some i => s.setPending [i]
    | none => tick s

end Sys2Proof.Machine
end

