-- ==== Sys2Proof/Machine/Dispatch.lean ====
section
/-! DEFINITION. The meaning of every command: one arm per constructor. -/

namespace Sys2Proof.Machine

def exec (i : Instr) (s : State) : Host.Outcome State Fault Refusal :=
  match i with
  | .hardReset straps byLine => Sys2Proof.Machine.execHardReset straps byLine s
  | .put item index value => Sys2Proof.Machine.execPut item index value s
  | .start minute second => Sys2Proof.Machine.execStart minute second s
  | .restart => Sys2Proof.Machine.execRestart s
  | .restartTakesEffect => Sys2Proof.Machine.execRestartTakesEffect s
  | .select choice => Sys2Proof.Machine.execSelect choice s
  | .recallPair => Sys2Proof.Machine.execRecall s
  | .release scope => Sys2Proof.Machine.execRelease scope s
  | .evict node => Sys2Proof.Machine.execEvict node s
  | .disable port => Sys2Proof.Machine.execDisable port s
  | .enable port => Sys2Proof.Machine.execEnable port s
  | .status => Sys2Proof.Machine.execStatus s
  | .notices => Sys2Proof.Machine.execNotices s
  | .view node => Sys2Proof.Machine.execView node s
  | .catalogueRequest node index => Sys2Proof.Machine.execCatalogueRequest node index s
  | .snapshot clear => Sys2Proof.Machine.execSnapshot clear s
  | .counters => Sys2Proof.Machine.execCounters s
  | .faults node => Sys2Proof.Machine.execFaults node s
  | .faultClear node => Sys2Proof.Machine.execFaultClear node s
  | .mask mask enable => Sys2Proof.Machine.execMask mask enable s
  | .badRequest bytes framingError => Sys2Proof.Machine.execBadRequest bytes framingError s
  | .hostRecordGap bytes => Sys2Proof.Machine.execHostRecordGap bytes s
  | .hostReplySent => Sys2Proof.Machine.execHostReplySent s
  | .bandSettle => Sys2Proof.Machine.execBandSettle s
  | .pttPress => Sys2Proof.Machine.execPttPress s
  | .pttRelease => Sys2Proof.Machine.execPttRelease s
  | .keyWaitEnd => Sys2Proof.Machine.execKeyWaitEnd s
  | .ampStep => Sys2Proof.Machine.execAmpStep s
  | .inhibitStep => Sys2Proof.Machine.execInhibitStep s
  | .tailAmpStep => Sys2Proof.Machine.execTailAmpStep s
  | .tailEnd => Sys2Proof.Machine.execTailEnd s
  | .busFree => Sys2Proof.Machine.execBusFree s
  | .frameAttemptStart => Sys2Proof.Machine.execFrameAttemptStart s
  | .readBackMismatch index framing byte => Sys2Proof.Machine.execReadBackMismatch index framing byte s
  | .frameSent => Sys2Proof.Machine.execFrameSent s
  | .frameRejected frame => Sys2Proof.Machine.execFrameRejected frame s
  | .frameAddressedElsewhere frame => Sys2Proof.Machine.execFrameAddressedElsewhere frame s
  | .frameContentBad frame => Sys2Proof.Machine.execFrameContentBad frame s
  | .frameReceivedHello frame => Sys2Proof.Machine.execFrameReceivedHello frame s
  | .frameReceivedCatalogue frame => Sys2Proof.Machine.execFrameReceivedCatalogue frame s
  | .frameReceivedRoll frame => Sys2Proof.Machine.execFrameReceivedRoll frame s
  | .frameReceivedAsk frame => Sys2Proof.Machine.execFrameReceivedAsk frame s
  | .frameReceivedGrant frame => Sys2Proof.Machine.execFrameReceivedGrant frame s
  | .frameReceivedWait frame => Sys2Proof.Machine.execFrameReceivedWait frame s
  | .frameReceivedRefuse frame => Sys2Proof.Machine.execFrameReceivedRefuse frame s
  | .frameReceivedFreeRelease frame => Sys2Proof.Machine.execFrameReceivedFreeRelease frame s
  | .frameReceivedFreeFromHome frame => Sys2Proof.Machine.execFrameReceivedFreeFromHome frame s
  | .frameReceivedBid frame => Sys2Proof.Machine.execFrameReceivedBid frame s
  | .frameReceivedTxon frame => Sys2Proof.Machine.execFrameReceivedTxon frame s
  | .frameReceivedTxoff frame => Sys2Proof.Machine.execFrameReceivedTxoff frame s
  | .frameReceivedDrop frame => Sys2Proof.Machine.execFrameReceivedDrop frame s
  | .rollDue => Sys2Proof.Machine.execRollDue s
  | .peerTimeout node => Sys2Proof.Machine.execPeerTimeout node s
  | .orphanHoldExpiry node => Sys2Proof.Machine.execOrphanHoldExpiry node s
  | .listenInEnd => Sys2Proof.Machine.execListenInEnd s
  | .isolationTimeout => Sys2Proof.Machine.execIsolationTimeout s
  | .replyDeadline record => Sys2Proof.Machine.execReplyDeadline record s
  | .windowEnd => Sys2Proof.Machine.execWindowEnd s
  | .bidRecordExpiry node => Sys2Proof.Machine.execBidRecordExpiry node s
  | .hangEnd => Sys2Proof.Machine.execHangEnd s
  | .hourBoundary => Sys2Proof.Machine.execHourBoundary s
  | .chainRefresh => Sys2Proof.Machine.execChainRefresh s
  | .busBusy framing byte => Sys2Proof.Machine.execBusBusy framing byte s
  | .framingBitInsideFrame byte => Sys2Proof.Machine.execFramingBitInsideFrame byte s
  | .bandLinesChange code => Sys2Proof.Machine.execBandLinesChange code s
  | .resetReleased => Sys2Proof.Machine.execResetReleased s

end Sys2Proof.Machine
end

