-- ==== Sys2Proof/Safety.lean ====
section
/-! DEFINITION. The terms in which statements about the node are made: which blocks a command changed, the laws that every
step keeps, and the ranges of a frame's fields. -/

namespace Sys2Proof.Machine

/-! ### What a command changed -/

/-- The fields of State: the blocks of the node, and the model's own queue and free-value counter. -/
inductive Block where
  | pending | freeIndex | node | inReset | now | lines | mode | cfg | digest | band | bus | learned | tracker | arb | sel
  | tok | bids | gov | drv | key | rep | host
  deriving DecidableEq, Repr

/-- A block is the same in two states. -/
def same (b : Block) (s t : State) : Prop :=
  match b with
  | .pending => t.pending = s.pending
  | .freeIndex => t.freeIndex = s.freeIndex
  | .node => t.node = s.node
  | .inReset => t.inReset = s.inReset
  | .now => t.now = s.now
  | .lines => t.lines = s.lines
  | .mode => t.mode = s.mode
  | .cfg => t.cfg = s.cfg
  | .digest => t.digest = s.digest
  | .band => t.band = s.band
  | .bus => t.bus = s.bus
  | .learned => t.learned = s.learned
  | .tracker => t.tracker = s.tracker
  | .arb => t.arb = s.arb
  | .sel => t.sel = s.sel
  | .tok => t.tok = s.tok
  | .bids => t.bids = s.bids
  | .gov => t.gov = s.gov
  | .drv => t.drv = s.drv
  | .key => t.key = s.key
  | .rep => t.rep = s.rep
  | .host => t.host = s.host

/-- Nothing but the listed blocks differs between two states. -/
structure ChangesOnly (bs : List Block) (s t : State) : Prop where
  frame : ∀ b, b ∉ bs → same b s t

/-! ### Lists of blocks -/

/-- Blocks that queueing a frame can change. -/
abbrev queueBlocks : List Block := [.bus, .rep]
/-- Blocks that the arbiter can change. -/
abbrev arbBlocks : List Block := [.arb, .bus, .rep, .drv, .sel]
/-- Blocks that a release can change. -/
abbrev releaseBlocks : List Block := [.arb, .bus, .rep, .drv, .sel, .tok]
/-- Blocks that the sequencer can change on its way to rest. -/
abbrev keyBlocks : List Block := [.arb, .bus, .rep, .drv, .sel, .tok, .key]
/-- Blocks that a press can change. -/
abbrev pressBlocks : List Block := [.arb, .bus, .rep, .drv, .sel, .tok, .key, .gov]
/-- Blocks that a peer's frame can change. -/
abbrev peerBlocks : List Block := [.arb, .bus, .rep, .drv, .sel, .tok, .key, .bids, .tracker]
/-- Blocks that a request of the arbiter or the selection unit can change. -/
abbrev requestBlocks : List Block := [.arb, .bus, .rep, .drv, .sel, .tok, .key, .host]
/-- Blocks that a RESTART changes. -/
abbrev restartBlocks : List Block :=
  [.mode, .tracker, .bus, .learned, .arb, .sel, .tok, .bids, .host, .drv, .key, .rep]

/-! ### Conditions on a state -/

/-- No revocation and no release waits for a holder to unkey (R77, R80). -/
abbrev noneDeferred (s : State) : Prop := ∀ p, deferred s p = false

/-- Nothing is left to follow from the records: no deferral waits, and no keydown rests on a lost TX selection (R79, R111). -/
abbrev settled (s : State) : Prop := noneDeferred s ∧ txLost s = false

/-- A change flag is set (R171). -/
abbrev flagged (s : State) (n : Notice) : Prop := s.rep.flags.getLsbD n.number = true

/-- A reply has fallen due, after those that were due before, and the host port is otherwise as it was (R181). -/
abbrev replied (s t : State) (kind : Byte) (status : Status) (body : List Byte) : Prop :=
  t.host = { s.host with replies := s.host.replies ++ [⟨kind, status, body⟩] }

/-- A command is answered with a reply and changes nothing else. -/
def answersOnly (c : Instr) (s : State) (kind : Byte) (status : Status) (body : List Byte) : Prop :=
  ∃ t, exec c s = .next t ∧ replied s t kind status body ∧ ChangesOnly [.host] s t

/-- A PUT is answered OK and makes the store what is given, and nothing else (R183). -/
def putStores (s : State) (item index : Byte) (value : List Byte) (cfg : Store) : Prop :=
  ∃ t, exec (.put item index value) s = .next t ∧ t.cfg = cfg ∧ replied s t 0x81 .ok [] ∧ ChangesOnly [.cfg, .host] s t

/-- A PUT is judged by its range (R183): in range it is stored and answered OK, else it is answered BAD_VALUE and the item is
left as it was. -/
def putJudged (s : State) (item index : Byte) (value : List Byte) (inRange : Prop) (cfg : Store) : Prop :=
  (inRange → putStores s item index value cfg) ∧
    (¬ inRange → answersOnly (.put item index value) s 0x81 .badValue [])

/-- Two consecutive samples show a level of PTT other than the debounced one (R153). -/
abbrev pttShows (s : State) (level : Bool) : Prop :=
  s.key.sample = level ∧ s.key.previous = level ∧ s.key.level ≠ level

/-- The pin of PTT moves to a level and nothing else changes. -/
def pttPinMoves (s t : State) (level : Bool) : Prop := t.lines = { s.lines with ptt := level } ∧ ChangesOnly [.lines] s t

/-- The first of the seven checks of R155 that fails gives this reason. -/
def refusedFor (s : State) (why : LockReason) : Prop :=
  if s.mode ≠ .active ∨ s.host.restartHeld = true then why = .starting
  else if s.band.decoded = 0 then why = .noBand
  else if s.sel.tx.state ≠ .granted ∨ s.sel.tx.antenna = none then why = .noAntenna
  else if s.cfg.bandLimit[s.band.decoded] = 0 then why = .bandClosed
  else if rulesLevel s = true then why = .rules
  else if s.tracker.isolated = true ∧ s.cfg.policy = .block then why = .isolated
  else s.cfg.govMode = .enforce ∧ governorFails s = true ∧ why = .governor

/-- The seven checks of R155 pass with an antenna, isolation aside. -/
abbrev keydownChecks (s : State) (a : Antenna) : Prop :=
  s.mode = .active ∧ s.host.restartHeld = false ∧ s.band.decoded ≠ 0 ∧ s.sel.tx.state = .granted ∧
    s.sel.tx.antenna = some a ∧ s.cfg.bandLimit[s.band.decoded] ≠ 0 ∧ rulesLevel s = false ∧
    (s.cfg.govMode = .enforce → governorFails s = false)

/-- A PTT press is due at a position in RECEIVE and would pass the seven checks of R155 with an antenna, isolation aside. -/
abbrev checksPass (s : State) (a : Antenna) : Prop :=
  s.inReset = false ∧ pttShows s true ∧ s.isTower = false ∧ s.key.state = .receive ∧ keydownChecks s a

/-- A PTT press would pass the checks of R155, with no isolation. -/
abbrev keydownPasses (s : State) (a : Antenna) : Prop := checksPass s a ∧ s.tracker.isolated = false

/-- A PTT press would pass the checks of R155 in isolation, under the LOCAL policy (R131). -/
abbrev isolatedPasses (s : State) (a : Antenna) : Prop :=
  checksPass s a ∧ s.tracker.isolated = true ∧ s.cfg.policy = .localKeying

/-- The lead length of a keydown on an antenna (R157): the link allowance when a peer listens on a coupled antenna, else 0. -/
def leadOf (s : State) (a : Antenna) : Nat := if coupledListeners s (couplingOf s a) = [] then 0 else s.allowance

/-- What the governor's check leaves of a press that passes: in WARN a failing check counts a warning and raises the notice,
and else nothing is counted (R134). -/
def governorWarned (s t : State) : Prop :=
  if s.cfg.govMode = .warn ∧ governorFails s = true then
    t.rep.live = { s.rep.live with governorWarnings := saturate s.rep.live.governorWarnings 1 } ∧ flagged t .governor
  else t.rep.live = s.rep.live

/-- What the governor commits when a TXON for a band is queued (R135): the last transmit band, and the change when it differs
from the one before. -/
def governorCommits (s t : State) (b : Band) : Prop :=
  t.gov.lastBand = some b ∧ t.gov.nextHour = s.gov.nextHour ∧
  (∀ last, s.gov.lastBand = some last → last ≠ b →
    t.gov.lastChange = some s.now ∧ t.gov.changes = min (s.gov.changes + 1) 255 ∧
      t.rep.live.bandChanges = saturate s.rep.live.bandChanges 1) ∧
  (s.gov.lastBand = none ∨ s.gov.lastBand = some b →
    t.gov.lastChange = s.gov.lastChange ∧ t.gov.changes = s.gov.changes ∧
      t.rep.live.bandChanges = s.rep.live.bandChanges)

/-- No choice and no release waits for the sequencer to come to rest (R98). -/
abbrev nothingPending (s : State) : Prop :=
  s.sel.slotTx = none ∧ s.sel.slotRx = none ∧ s.sel.pendingRelease = none

/-- The four conditions of the key-wait, as the table of R159 lists them. -/
def keyWaitMet (s : State) : Prop :=
  (∀ e, s.drv.localEnd = some e → reached e s.now = true) ∧
    (∃ g, s.sel.tx.guardEnd = some g ∧ reached g s.now = true) ∧ s.tok.state = .keyed ∧
    (s.key.lead = .met ∨ ∃ e, s.key.lead = .ends e ∧ reached e s.now = true)

/-! ### Events that have fallen due -/

/-- An event that a tick brings has fallen due, with its row, as the rule of each gives it. -/
inductive Due (s : State) : Instr → Prop where
  /-- R14. -/
  | bandSettle : s.band.candidate ≠ s.band.settled → reached (after s.band.start 20) s.now = true → Due s .bandSettle
  /-- R153. -/
  | pttPress : pttShows s true → Due s .pttPress
  /-- R153. -/
  | pttRelease : pttShows s false → Due s .pttRelease
  /-- R180. -/
  | recordGap : s.host.discarding = true ∨ s.host.record ≠ [] → reached (after s.host.lastByte 5) s.now = true →
      Due s (.hostRecordGap s.host.record)
  /-- R133. -/
  | hour (u : Tick) : s.gov.nextHour = some u → reached u s.now = true → Due s .hourBoundary
  /-- R50. -/
  | silence (p : Node) : s.mode ≠ .setup → p ≠ s.node → (s.peer p).state = .current ∨ (s.peer p).state = .stale →
      reached (after (s.peer p).lastFrame (3 * s.interval)) s.now = true → Due s (.peerTimeout p)
  /-- R51. -/
  | orphan (p : Node) (u : Tick) : s.mode ≠ .setup → p ≠ s.node → (s.peer p).state = .silent →
      (s.peer p).orphanEnd = some u → reached u s.now = true → Due s (.orphanHoldExpiry p)
  /-- R55, R56. -/
  | listenIn (u : Tick) : s.mode = .listenIn → s.tracker.listenInEnd = some u → reached u s.now = true → Due s .listenInEnd
  /-- R58. -/
  | isolation : s.mode = .active → s.tracker.isolated = false →
      reached (after s.tracker.lastPeerFrame (3 * s.interval)) s.now = true → Due s .isolationTimeout
  /-- R122. -/
  | bid (p : Node) (b : Bid) : s.mode ≠ .setup → s.bids[p] = some b → reached b.expiry s.now = true →
      Due s (.bidRecordExpiry p)
  /-- R107. -/
  | deadline (name : SelName) (u : Tick) : s.mode ≠ .setup → (s.selection name).state = .asking →
      (s.selection name).deadline = some u → reached u s.now = true → Due s (.replyDeadline name)
  /-- R118. -/
  | window (u : Tick) : s.mode ≠ .setup → s.tok.state = .bidding → s.tok.windowEnd = some u → reached u s.now = true →
      Due s .windowEnd
  /-- R126. -/
  | hang (u : Tick) : s.mode ≠ .setup → s.tok.state = .hanging → s.tok.hangEnd = some u → reached u s.now = true →
      Due s .hangEnd
  /-- R159. -/
  | keyWait : s.key.state = .keyWait → keyWaitMet s → Due s .keyWaitEnd
  /-- R162. -/
  | ampStep (u : Tick) : s.key.state = .stepUp → s.key.amp = false → s.key.ampAt = some u → reached u s.now = true →
      Due s .ampStep
  /-- R162. -/
  | inhibitStep (u : Tick) : s.key.state = .stepUp → s.key.amp = true → s.key.lastAt = some u → reached u s.now = true →
      Due s .inhibitStep
  /-- R164. -/
  | tailAmpStep (u : Tick) : s.key.state = .stepDown → s.key.ampAt = some u → reached u s.now = true → Due s .tailAmpStep
  /-- R164. -/
  | tailEnd (u : Tick) : s.key.state = .stepDown → s.key.ampAt = none → s.key.lastAt = some u → reached u s.now = true →
      Due s .tailEnd
  /-- R90, R168, R187. -/
  | restart : s.host.restartHeld = true → s.key.state.busy = false → (∀ p, keyedHolder s p = false) →
      Due s .restartTakesEffect
  /-- R38. -/
  | roll (u : Tick) : s.mode ≠ .setup → s.bus.nextRoll = some u → reached u s.now = true → Due s .rollDue
  /-- R149. -/
  | refresh : reached s.drv.refreshAt s.now = true → Due s .chainRefresh
  /-- R28. -/
  | attempt (f : QueuedFrame) (rest : List QueuedFrame) : s.mode ≠ .setup → s.bus.free = true → s.bus.driving = false →
      s.bus.queue = f :: rest →
      (if f.attempts ≠ 0 then 20 else if f.content.kind.urgent then 2 else 12) + s.node.val ≤
        s.bus.idle + (s.bus.idleRest + 1000) / characterTime s.cfg.rate →
      Due s .frameAttemptStart

/-! ### The drive merger -/

/-- An end after a drive change that it holds: the later of its present value and the tick of the change plus the guard
(R143). -/
def guardEndAfter (stop : Option Tick) (now : Tick) (guardTime : Nat) : Option Tick :=
  match stop with
  | none => some (after now guardTime)
  | some e => some (laterOf e (after now guardTime))

/-- The drive moved by one recompute (R141–R143, R148): nothing when no output changed; else the settle is the largest
contribution of a changed output, the guard is the settle plus the margin, the record holds the change, the new word is
shifted onto the chain, and the guard extends the held-over end while the sequencer is in STEP_UP, TRANSMIT or STEP_DOWN at a
position, and the local end otherwise. -/
def driveMoved (s t : State) : Prop :=
  let changed := changedOutputs s.drv.word t.drv.word
  (changed = [] → t.drv = s.drv) ∧
  (changed ≠ [] →
    ∃ settle, (∀ o ∈ changed, contribution t.cfg t.drv.word o ≤ settle) ∧
      (∃ o ∈ changed, contribution t.cfg t.drv.word o = settle) ∧
      t.drv.lastChange = some ⟨s.now, changed.length, settle, settle + t.cfg.margin⟩ ∧ t.drv.shift = some t.drv.word ∧
      t.drv.latched = s.drv.latched ∧ t.drv.refreshAt = s.drv.refreshAt ∧
      (if (t.key.state = .stepUp ∨ t.key.state = .transmit ∨ t.key.state = .stepDown) ∧ t.isTower = false then
        t.drv.localEnd = s.drv.localEnd ∧ t.drv.heldEnd = guardEndAfter s.drv.heldEnd s.now (settle + t.cfg.margin)
      else
        t.drv.localEnd = guardEndAfter s.drv.localEnd s.now (settle + t.cfg.margin) ∧ t.drv.heldEnd = s.drv.heldEnd))

/-- The local end after the held-over end is folded into it (R144): the later of the two, or itself when the held-over end is
none or has passed. -/
def foldedLocalEnd (s : State) : Option Tick :=
  match s.drv.heldEnd with
  | none => s.drv.localEnd
  | some h =>
    if reached h s.now = true then s.drv.localEnd
    else
      match s.drv.localEnd with
      | none => some h
      | some e => some (laterOf e h)

/-! ### The re-offer (R78) -/

/-- A wait entry is considered when a port is freed: it waits on that port, or on another port of its non-zero feedline
group. -/
def considered (s : State) (freed q : Port) (w : Waiter) : Prop :=
  w ∈ (s.port q).waits ∧ (q = freed ∨ (feedlineOf s freed ≠ 0 ∧ feedlineOf s q = feedlineOf s freed))

/-- A wait entry comes before another (R78): a lower class, or within a class a greater age, counted modulo 65 536 (R69). -/
def waitsLonger (s : State) (w w' : Waiter) : Prop :=
  w.cls.number < w'.cls.number ∨
    (w.cls = w'.cls ∧ (s.arb.arrivals - w'.arrival).toNat < (s.arb.arrivals - w.arrival).toNat)

/-! ### Lists of frames -/

/-- Entries of a list that belong to a node, changed by `f`; the others are as they were. -/
def changedAt {α : Type} (nodeOf : α → Node) (p : Node) (f : α → α) (l : List α) : List α :=
  l.map (fun x => if nodeOf x = p then f x else x)

/-- A list with one entry that meets `p` taken out, the others in their order. -/
def lessOne {α : Type} (p : α → Prop) (before after : List α) : Prop :=
  ∃ front old back, before = front ++ old :: back ∧ p old ∧ after = front ++ back

/-! ### The outbound queue (R32–R34) -/

/-- A new frame has found its place in the queue (R32): a normal frame behind all, an urgent one behind the frame in flight
and every urgent frame, before the waiting normal ones; the others keep their order. -/
def placedIn (f : QueuedFrame) (before after : List QueuedFrame) : Prop :=
  ∃ front back, before = front ++ back ∧ after = front ++ f :: back ∧
    (f.content.kind.urgent = false → back = []) ∧
    (f.content.kind.urgent = true →
      (∀ g ∈ back, g.waiting = true ∧ g.content.kind.urgent = false) ∧
        (∀ g ∈ front, g.waiting = true → g.content.kind.urgent = true))

/-- One frame stands before another in the queue. -/
def queuedBefore (s : State) (c : Content) (destination : Byte) (c' : Content) (destination' : Byte) : Prop :=
  ∃ front mid back g g', s.bus.queue = front ++ g :: mid ++ g' :: back ∧ g.content = c ∧ g.destination = destination ∧
    g'.content = c' ∧ g'.destination = destination'

/-- A queued frame says something to a destination and has not been attempted. -/
def queuedTo (s : State) (c : Content) (destination : Byte) : Prop :=
  ∃ g ∈ s.bus.queue, g.content = c ∧ g.destination = destination ∧ g.attempts = 0

/-- A frame that is no ROLL finds a place (R34): the queue has room, or a waiting ROLL or CATALOGUE gives way. -/
abbrev hasRoom (s : State) : Prop :=
  s.bus.queue.length < 12 ∨ s.bus.queue.any (waitingKind .roll) = true ∨ s.bus.queue.any (waitingKind .catalogue) = true

/-! ### Giving a selection up (R92) -/

/-- A home counts on a record, so that giving it up owes the home a FREE (R92). -/
abbrev counted (s : State) (name : SelName) : Prop :=
  (s.selection name).state = .asking ∨ (s.selection name).state = .waiting ∨ (s.selection name).state = .granted

/-- The FREE that a record owes a peer home when it is given up, with its destination (R92): none for an antenna of the node's
own, or where the home does not count on the record. -/
def freeOwed (s : State) (name : SelName) : List (Content × Byte) :=
  match (s.selection name).antenna with
  | some a =>
    if counted s name ∧ homeOf a ≠ s.node then [(.free (portOf a) (useOf name) .release, byte (homeOf a).val)] else []
  | none => []

/-- The FREE that a record owes is queued. -/
def freeQueued (s t : State) (name : SelName) : Prop := ∀ e ∈ freeOwed s name, queuedTo t e.1 e.2

/-- The FREE that a record owes stands before another frame in the queue. -/
def freeBefore (s t : State) (name : SelName) (c : Content) (destination : Byte) : Prop :=
  ∀ e ∈ freeOwed s name, queuedBefore t e.1 e.2 c destination

/-- The other record is homed at peers, if anywhere. -/
abbrev otherAway (s : State) (name : SelName) : Prop :=
  ∀ other a, other ≠ name → (s.selection other).antenna = some a → homeOf a ≠ s.node

/-- A record that is given up leaves an own port (R76, R92): its use goes from the node's holder entry or wait entry there, and
the entry goes with its last use. -/
def leavesOwnPort (s t : State) (name : SelName) : Prop :=
  ∀ a, (s.selection name).antenna = some a → counted s name → homeOf a = s.node →
    (∀ h, holderOf s s.node (portOf a) = some h → (∀ q, (s.port q).waits = []) →
      (h.uses = Uses.of (useOf name) →
        (t.port (portOf a)).holders = (s.port (portOf a)).holders.filter (fun x => x.node != s.node)) ∧
      (h.uses = Uses.mk true true → otherAway s name →
        (t.port (portOf a)).holders =
          changedAt Holder.node s.node (fun x => { x with uses := x.uses.remove (useOf name) })
            (s.port (portOf a)).holders)) ∧
    (∀ w, holderOf s s.node (portOf a) = none → waiterOf s s.node (portOf a) = some w →
      w.uses = Uses.of (useOf name) → (∀ x ∈ (s.port (portOf a)).waits, x.node = s.node → x = w) → otherAway s name →
      (t.port (portOf a)).waits = (s.port (portOf a)).waits.filter (fun x => x.node != s.node))

/-- A choice of a band is for no antenna of the node's own. -/
abbrev choiceAway (s : State) (b : Band) (c : Nat) : Prop :=
  ∀ a, entryOf s b c = some (some a) → homeOf a ≠ s.node

/-! ### Pending work (R98) -/

/-- A scope covers a record (R97). -/
def Scope.covers (scope : Scope) : SelName → Bool
  | .tx => scope.hasTx
  | .rx => scope.hasRx

/-- The pending slot of a record (R98). -/
def slotOf (s : State) : SelName → Option Slot
  | .tx => s.sel.slotTx
  | .rx => s.sel.slotRx

/-- The pending release covers a record (R98). -/
def releasedBy (s : State) (name : SelName) : Bool :=
  match s.sel.pendingRelease with
  | some scope => scope.covers name
  | none => false

/-- The pending work gives a record up (R98): its release covers it, or its slot holds a choice that it does not hold
already. -/
def workGivesUp (s : State) (name : SelName) : Prop :=
  releasedBy s name = true ∨ ∃ slot, slotOf s name = some slot ∧ alreadyHolds (s.selection name) slot.choice = false

/-! ### The end of a keydown -/

/-- A keydown has ended with a forced abort for a reason, from the point reached (R164, R165). The tail begins at its first
step, and from KEY_WAIT, or with nothing brought up, it is over: LOCKOUT with the reason, or RECEIVE once PTT is released. -/
def keydownEnds (s t : State) (why : AbortReason) : Prop :=
  t.key.inhibit = true ∧ t.rep.live.keyAborts = saturate s.rep.live.keyAborts 1 ∧
  t.rep.live.keyRefusals = s.rep.live.keyRefusals ∧ flagged t .keyAborted ∧
  (s.key.state = .transmit →
    t.key.state = .stepDown ∧ t.key.tail = some (.abort why) ∧ t.key.amp = s.key.amp ∧
    t.key.ampAt = some (after s.now s.cfg.d2) ∧ t.key.lastAt = some (after s.now (s.cfg.d2 + s.cfg.d1))) ∧
  (s.key.state = .stepUp → s.key.amp = true →
    t.key.state = .stepDown ∧ t.key.tail = some (.abort why) ∧ t.key.amp = false ∧
    t.key.lastAt = some (after s.now s.cfg.d1)) ∧
  (s.key.state = .keyWait ∨ (s.key.state = .stepUp ∧ s.key.amp = false) →
    t.key.state = (if s.key.level then .lockout else .receive) ∧ t.key.lastReason = some why.lock ∧
    t.key.stepProtect = false ∧ t.key.amp = false)

/-- The sequencer is as it was, but for PROTECT, which the listening antenna alone may move (R64, R167). -/
def keyingKept (s t : State) : Prop := t.key = { s.key with protect := t.key.protect }

/-- The tail of an abort has steps to take, so that no pending work is carried out in its command (R98, R164). -/
abbrev tailRuns (s : State) : Prop := s.key.state = .transmit ∨ (s.key.state = .stepUp ∧ s.key.amp = true)

/-- No choice and no release put aside reaches a record when a keydown that runs now is aborted (R98). -/
abbrev keptAside (s : State) (name : SelName) : Prop :=
  s.key.state.keyed = false ∨ tailRuns s ∨ (slotOf s name = none ∧ releasedBy s name = false)

/-- A keydown has ended with REVOKED, and the token unit has taken the abort (R128): KEYED tokens go to HANGING behind a TXOFF,
and tokens not KEYED stay, but for what a release put aside does to them. -/
def keydownRevoked (s t : State) : Prop :=
  keydownEnds s t .revoked ∧
  (tailRuns s ∨ releasedBy s .tx = false →
    (s.tok.state ≠ .keyed → t.tok = s.tok) ∧
    (∀ b a, s.tok.state = .keyed → s.tok.band = some b → s.tok.antenna = some a →
      t.tok = { s.tok with state := .hanging, windowEnd := none, hangEnd := some (after s.now s.cfg.hang) } ∧
      ((∀ q, (s.port q).waits = []) → hasRoom s → queuedTo t (.txoff b a) 255)))

/-- A keydown on an antenna of a lost or restarted home is aborted with REVOKED (R109–R111, R165). -/
def awayKeydownEnds (s t : State) (p : Node) : Prop :=
  s.key.state.keyed = true → s.sel.tx.homedAt p = true → s.sel.tx.state = .granted → keydownRevoked s t

/-! ### Frames that arrive -/

/-- A frame from `p` reaches a node that hears it, with its content good (R25, R26). -/
abbrev arrives (s : State) (f : WireFrame) (p : Node) (c : Content) : Prop := s.listens = true ∧ verdict s f = .good p c

/-- A truncated frame or a stray fragment that a row's frame finds in the assembly, and closes with its characters or with the
free bus before them (R24; log entry 45). -/
def leftBefore (s : State) (f : WireFrame) : Prop :=
  (∃ cs, s.bus.openFrame = some cs ∧ ¬ cs <+: wireChars f) ∨
    (s.bus.openFrame = none ∧ s.bus.afterComplete = true ∧ s.bus.stray ≠ [])

/-- The row of a complete frame whose content is good (R27). -/
def goodRow (f : WireFrame) : Content → Instr
  | .hello _ _ => .frameReceivedHello f
  | .catalogue _ _ => .frameReceivedCatalogue f
  | .roll _ => .frameReceivedRoll f
  | .ask _ _ _ _ => .frameReceivedAsk f
  | .grant _ _ _ => .frameReceivedGrant f
  | .wait _ _ => .frameReceivedWait f
  | .refuse _ _ => .frameReceivedRefuse f
  | .free _ _ .release => .frameReceivedFreeRelease f
  | .free _ _ .revoke => .frameReceivedFreeFromHome f
  | .free _ _ .reconcile => .frameReceivedFreeFromHome f
  | .free _ _ .notYours => .frameReceivedFreeFromHome f
  | .bid _ _ _ => .frameReceivedBid f
  | .txon _ _ => .frameReceivedTxon f
  | .txoff _ _ => .frameReceivedTxoff f
  | .drop _ => .frameReceivedDrop f

/-- The row of a complete frame by its verdict (R25–R27). -/
def rowOf (s : State) (f : WireFrame) : Instr :=
  match verdict s f with
  | .rejected => .frameRejected f
  | .elsewhere _ _ => .frameAddressedElsewhere f
  | .bad _ _ => .frameContentBad f
  | .good _ c => goodRow f c

/-- The kinds with a fixed body length: the code and the length (R21). -/
def fixedLengths : List (Nat × Nat) :=
  [(3, 10), (4, 4), (5, 3), (6, 2), (7, 2), (8, 3), (9, 3), (10, 2), (11, 2), (12, 1)]

/-- A body has the length that the code of its kind requires (R21): a fixed one, or 3 + 4 × count for HELLO and CATALOGUE, with
a count of at most 16. -/
def lengthRight (code : Nat) (body : List Byte) : Prop :=
  (code, body.length) ∈ fixedLengths ∨
    ((code = 1 ∨ code = 2) ∧ ∃ hi lo count descriptors,
      body = hi :: lo :: count :: descriptors ∧ count.toNat ≤ 16 ∧ descriptors.length = 4 * count.toNat)

/-- A complete frame is to be rejected (R25). A frame of the node's own number that is its own never comes to the checks: the
node hears nothing while it drives. -/
def mustReject (s : State) (f : WireFrame) : Prop :=
  crc (covered f) ≠ f.crc ∨ f.kind.toNat = 0 ∨ 12 < f.kind.toNat ∨ f.body.length ≠ f.length.toNat ∨
    ¬ lengthRight f.kind.toNat f.body ∨ s.cfg.nodes ≤ f.source.toNat % 16 ∨ f.source.toNat % 16 = s.node.val ∨
    (f.kind.toNat ∈ [1, 2, 3, 9, 10, 11, 12] ∧ f.destination ≠ 255) ∨
    (f.kind.toNat ∈ [4, 5, 6, 7, 8] ∧
      (f.destination = 255 ∨ s.cfg.nodes ≤ f.destination.toNat ∨ f.destination.toNat = f.source.toNat % 16))

/-- The descriptor that a home's catalogue, the own one or a learned one, lists for an antenna (R12). -/
def listedAt (s : State) (a : Antenna) : Option Descriptor :=
  if homeOf a = s.node then ownDescriptor s (portOf a)
  else s.learned[homeOf a].descriptors.find? (fun d => d.port == portOf a)

/-- An antenna in a TX field, or in another, is a claim fault (R26, R12): its home is no node of the station, or has a known
catalogue that does not list it, or lists it as RX-kind in a TX field. An unknown catalogue is no fault. -/
def claimsWrongly (s : State) (asTx : Bool) (a : Antenna) : Prop :=
  s.cfg.nodes ≤ (homeOf a).val ∨
    ((homeOf a = s.node ∨ s.learned[homeOf a].known = true) ∧
      (listedAt s a = none ∨ (asTx = true ∧ ∃ d, listedAt s a = some d ∧ d.kind = .rx)))

/-- A byte that must be an antenna id 0 to 127 is not, or claims wrongly. -/
def antennaBad (s : State) (asTx : Bool) (b : Byte) : Prop :=
  127 < b.toNat ∨ ∃ a : Antenna, b.toNat = a.val ∧ claimsWrongly s asTx a

/-- A byte is no band 1 to 7. -/
abbrev bandBad (b : Byte) : Prop := b.toNat = 0 ∨ 7 < b.toNat

/-- A descriptor fails the checks of R8 that look at it alone. -/
abbrev descriptorBad (port bands mixed feedline : Byte) : Prop :=
  15 < port.toNat ∨ bands = 0 ∨ bands.getLsbD 0 = true ∨ 1 < mixed.toNat / 64 ∨
    (mixed.toNat / 64 = 0 ∧ mixed.toNat / 16 % 4 ≠ 0) ∨ 7 < feedline.toNat

/-- A descriptor of a list of descriptors fails the checks of R8, alone or behind the port before it. -/
def descriptorsBad (bytes : List Byte) : Prop :=
  ∃ k port bands mixed feedline rest, bytes.drop (4 * k) = port :: bands :: mixed :: feedline :: rest ∧
    (descriptorBad port bands mixed feedline ∨
      ∃ before, 0 < k ∧ bytes[4 * (k - 1)]? = some before ∧ port.toNat ≤ before.toNat)

/-- The content of an accepted frame's body fails (R26). -/
def contentBad (s : State) : FrameKind → List Byte → Prop
  | .hello, _ :: _ :: _ :: descriptors | .catalogue, _ :: _ :: _ :: descriptors => descriptorsBad descriptors
  | .roll, [flags, band, tx, rx, tokens, _, _, _, _, _] =>
    flags.getLsbD 7 = true ∨ flags.toNat / 4 % 4 = 3 ∨ 7 < band.toNat ∨ (tx ≠ 255 ∧ antennaBad s true tx) ∨
      (rx ≠ 255 ∧ antennaBad s false rx) ∨ tokens.toNat % 4 = 3 ∨ tokens.toNat / 4 % 4 = 3 ∨ tokens.toNat / 16 ≠ 0 ∨
      (flags.getLsbD 6 = true ∧ rx ≠ 255)
  | .bid, [band, cls, tx] => bandBad band ∨ 2 < cls.toNat ∨ antennaBad s true tx
  | .txon, [band, tx] | .txoff, [band, tx] => bandBad band ∨ antennaBad s true tx
  | .drop, [band] => bandBad band
  | .ask, [port, use, band, cls] => 15 < port.toNat ∨ 1 < use.toNat ∨ bandBad band ∨ 2 < cls.toNat
  | .grant, [port, use, settle] => 15 < port.toNat ∨ 1 < use.toNat ∨ 70 < settle.toNat ∨ s.cfg.role = .tower
  | .wait, [port, place] => 15 < port.toNat ∨ place.toNat = 0 ∨ 8 < place.toNat ∨ s.cfg.role = .tower
  | .refuse, [port, reason] => 15 < port.toNat ∨ reason.toNat = 0 ∨ 5 < reason.toNat ∨ s.cfg.role = .tower
  | .free, [port, use, cause] =>
    15 < port.toNat ∨ 1 < use.toNat ∨ 3 < cause.toNat ∨ (cause ≠ 0 ∧ s.cfg.role = .tower)
  | _, _ => False

/-- A frame shows no epoch jump: its sender's record is ABSENT or GONE, or has the frame's epoch (R42, R44). -/
abbrev sameEpoch (s : State) (f : WireFrame) (p : Node) : Prop :=
  (s.peer p).state = .absent ∨ (s.peer p).state = .gone ∨ sourceEpoch f = (s.peer p).epoch

/-- A record under the sequence check, reached by a frame with its epoch (R43). -/
abbrev sequenced (s : State) (f : WireFrame) (p : Node) : Prop :=
  ((s.peer p).state = .current ∨ (s.peer p).state = .stale) ∧ sourceEpoch f = (s.peer p).epoch

/-- A frame is in sequence (R43). -/
abbrev inSequence (s : State) (f : WireFrame) (p : Node) : Prop :=
  sequenced s f p ∧ f.sequence = (s.peer p).sequence + 1

/-- A frame shows a gap: it is neither in sequence nor a repeat (R43). -/
abbrev showsGap (s : State) (f : WireFrame) (p : Node) : Prop :=
  sequenced s f p ∧ f.sequence ≠ (s.peer p).sequence + 1 ∧ f.sequence ≠ (s.peer p).sequence

/-- What a peer's restart leaves (R44, R46, R86, R109, R122): its claims purged, its bid record dropped, no holder and no wait
entry of its own, and the selections homed at it in REASK with choice and antenna kept. -/
def peerReleased (s t : State) (p : Node) : Prop :=
  ((t.peer p).roll = none ∧ (t.peer p).keyed = none ∧ (t.peer p).bandToken = .free ∧ (t.peer p).signalToken = .free ∧
    (t.peer p).tokenBand = 0 ∧ (t.peer p).announced = false) ∧
  t.bids[p] = none ∧
  (∀ port : Port, (∀ h ∈ (t.port port).holders, h.node ≠ p) ∧ (∀ w ∈ (t.port port).waits, w.node ≠ p)) ∧
  (∀ name, (s.selection name).homedAt p = true → counted s name → keptAside s name →
    (t.selection name).state = .reask ∧ (t.selection name).choice = (s.selection name).choice ∧
      (t.selection name).antenna = (s.selection name).antenna)

/-- What the end of a peer's known keyed state on a port lets be carried out there, the peer being its one holder (R79). A
pending revocation takes the entry and queues a FREE(revoke) for each of its uses; a pending release takes its use, and the
entry with its last one, with no frame. Stated where no other event of the command reaches the port: it is disabled, or nobody
waits. -/
def deferralEnds (s t : State) (p : Node) (port : Port) : Prop :=
  ∀ h, (s.port port).holders = [h] → h.node = p →
    ((s.port port).disabled = true → (s.port port).revokePending = true →
      (t.port port).holders = [] ∧ (t.port port).revokePending = false) ∧
    ((∀ q, q ≠ port → deferred s q = false) → s.tok.state = .free → txLost s = false →
      ((s.port port).revokePending = true →
        ((∀ q, (s.port q).waits = []) → (t.port port).holders = [] ∧ (t.port port).revokePending = false) ∧
        (s.bus.queue.length < 11 →
          ∀ use, h.uses.has use = true → queuedTo t (.free port use .revoke) (byte p.val))) ∧
      (∀ use, (s.port port).revokePending = false → (s.port port).releasePending = Uses.of use →
        (∀ q, (s.port q).waits = []) →
        (t.port port).releasePending = Uses.empty ∧
        (h.uses = Uses.of use → (t.port port).holders = []) ∧
        (h.uses = Uses.mk true true → (t.port port).holders = [{ h with uses := h.uses.remove use }]) ∧
        t.bus.queue.map QueuedFrame.content = s.bus.queue.map QueuedFrame.content))

/-- A record that an ACTIVE ROLL of its home asks again (R108, R109): homed at the peer and in REASK, or FAILED with NO_REPLY
or with a STARTING that the home gave. -/
def asksAgainAt (r : Selection) (p : Node) : Prop :=
  (∃ a, r.antenna = some a ∧ homeOf a = p) ∧
    (r.state = .reask ∨
      (r.state = .failed ∧ (r.reason = some .noReply ∨ r.reason = some (.refusedByHome .starting))))

/-- What a peer that is GONE leaves (R51, R85, R110, R122): a GONE record with no claims and no mark, no bid record, no holder
and no wait entry of its own, and the selections homed at it that asked, waited or were granted failed with HOME_GONE. -/
def peerVanished (s t : State) (p : Node) : Prop :=
  t.peer p = { s.peer p with
    state := .gone, orphanEnd := none, roll := none, keyed := none, bandToken := .free, signalToken := .free,
    tokenBand := 0, announced := false, mismatch := false } ∧
  t.bids[p] = none ∧
  (∀ port : Port, (∀ h ∈ (t.port port).holders, h.node ≠ p) ∧ (∀ w ∈ (t.port port).waits, w.node ≠ p)) ∧
  (∀ name, (s.selection name).homedAt p = true → (s.selection name).state ≠ .empty →
    (s.selection name).state ≠ .failed → keptAside s name →
    (t.selection name).state = .failed ∧ (t.selection name).reason = some .homeGone ∧
      (t.selection name).choice = (s.selection name).choice ∧ (t.selection name).antenna = (s.selection name).antenna)

/-- What a peer that is GONE leaves of the node's own keydown (R110, R111). With no keydown, or with one on another home's
antenna, the sequencer and the tokens stay. A keydown on an antenna of the peer is aborted. -/
def vanishedKeydown (s t : State) (p : Node) : Prop :=
  (s.key.state.keyed = false ∨ (settled s ∧ s.sel.tx.homedAt p = false ∧
      ∀ q, ∀ w ∈ (s.port q).waits, w.node = s.node → w.uses.tx = false) →
    keyingKept s t ∧ t.tok = s.tok ∧ t.rep.live.keyAborts = s.rep.live.keyAborts) ∧
  awayKeydownEnds s t p

/-! ### Pending work carried out (R98) -/

/-- A record's choice after the pending release (R98, step 1). -/
def choiceReleased (s : State) (name : SelName) : Option Nat :=
  if releasedBy s name = true then none else (s.selection name).choice

/-- The actual scope of a release, by what it changed (R97): the choices the two records held, and whether tokens were
dropped. -/
def scopeTaken (scope : Scope) (tx rx : Option Nat) (dropped : Bool) : ActualScope :=
  match scope with
  | .rx => if rx = none then .nothing else .rx
  | .tx => if dropped = true then .txTokens else if tx = none then .nothing else .tx
  | .all =>
    if dropped = true ∨ (tx ≠ none ∧ rx ≠ none) then .all
    else if rx ≠ none then .rx
    else if tx ≠ none then .tx
    else .nothing

/-- The work pending in `s` has been carried out on entry to RECEIVE or LOCKOUT, as one event (R98): the release, then one push
of the pair it leaves where a slot holds a choice that was not recalled, then the choices of the slots. Each record that it
gives up queues its FREE to a peer home or leaves its own port (R92), and every FREE stands before every ASK (R94). `hanging`
says that the tokens were HANGING then. -/
def pendingCarriedOut (s t : State) (hanging : Bool) : Prop :=
  nothingPending t ∧
  (∀ name, (∀ slot, slotOf s name = some slot → slot.choice ≤ 16 → s.band.decoded ≠ 0 →
      (t.selection name).choice = some slot.choice) ∧
    (slotOf s name = none → (t.selection name).choice = choiceReleased s name) ∧
    (workGivesUp s name → s.bus.queue.length < 7 → freeQueued s t name) ∧
    (workGivesUp s name → hanging = true ∨ s.tok.state ≠ .keyed → noneDeferred s →
      (∀ other slot, slotOf s other = some slot → choiceAway s s.band.decoded slot.choice) → leavesOwnPort s t name) ∧
    (∀ c recalled a, slotOf s name = some ⟨c, recalled⟩ → workGivesUp s name → c < 16 →
      entryOf s s.band.decoded c = some (some a) → localCheck s name (some a) = none → homeOf a ≠ s.node → noneDeferred s →
      (∀ p, (s.port p).waits = []) → s.bus.queue.length < 7 →
      t.selection name =
        ⟨.asking, some c, some a, none, none, some (after s.now (2 * s.interval)), none, none⟩ ∧
      queuedTo t (.ask (portOf a) (useOf name) s.band.decoded s.cfg.cls) (byte (homeOf a).val) ∧
      ∀ old, workGivesUp s old →
        freeBefore s t old (.ask (portOf a) (useOf name) s.band.decoded s.cfg.cls) (byte (homeOf a).val))) ∧
  (t.sel.memory[s.band.decoded] =
    if s.band.decoded ≠ 0 ∧ (freshSlot s.sel.slotTx = true ∨ freshSlot s.sel.slotRx = true) then
      match choiceReleased s .tx, choiceReleased s .rx with
      | none, none => s.sel.memory[s.band.decoded]
      | tx, rx => pushPair (tx.getD s.cfg.defaultTx[s.band.decoded], rx.getD s.cfg.defaultRx[s.band.decoded])
          s.sel.memory[s.band.decoded]
    else s.sel.memory[s.band.decoded]) ∧
  (∀ scope, s.sel.pendingRelease = some scope →
    t.sel.actualScope = scopeTaken scope s.sel.tx.choice s.sel.rx.choice (scope.hasTx && hanging) ∧
    (scope.hasTx = true → hanging = true → t.tok = Tokens.reset ∧
      ∀ b, s.tok.band = some b → s.bus.queue.length < 7 → queuedTo t (.drop b) 255)) ∧
  (s.sel.pendingRelease = none → t.sel.actualScope = s.sel.actualScope)

/-! ### Band changes (R100) -/

/-- The tokens after a band change (R127): FREE, with a DROP for their band queued when they were not FREE before. -/
def tokensDropped (s t : State) : Prop :=
  (s.tok.state = .free → t.tok = s.tok) ∧ (s.tok.state ≠ .free → t.tok = Tokens.reset) ∧
  (∀ b, s.tok.state ≠ .free → s.tok.band = some b → hasRoom s → queuedTo t (.drop b) 255)

/-- The stacks after a band change (R99, R100, steps 2 and 5): the pair of the two records pushed on the stack of the band
left, nothing when both had no choice; the top of the new band's stack taken off; the others as they were. -/
def stacksChanged (s t : State) (new : Band) : Prop :=
  (∀ b : Band, b ≠ 0 → b = s.band.decoded →
    t.sel.memory[b] =
      match s.sel.tx.choice, s.sel.rx.choice with
      | none, none => s.sel.memory[b]
      | tx, rx => pushPair (tx.getD s.cfg.defaultTx[b], rx.getD s.cfg.defaultRx[b]) s.sel.memory[b]) ∧
  (∀ b : Band, b ≠ 0 → b = new → t.sel.memory[b] = (s.sel.memory[b]).tail) ∧
  (∀ b : Band, b = 0 ∨ (b ≠ s.band.decoded ∧ b ≠ new) → t.sel.memory[b] = s.sel.memory[b])

/-- A record's choice on entry to a band (R100, step 5): that of the top pair of the band's stack, or the band's default. -/
def choiceOnEntry (s : State) (b : Band) : SelName → Nat
  | .tx => ((s.sel.memory[b]).head?.map Prod.fst).getD s.cfg.defaultTx[b]
  | .rx => ((s.sel.memory[b]).head?.map Prod.snd).getD s.cfg.defaultRx[b]

/-- A band change gives both records up (R100, step 3; R92): a FREE to each peer home that a record asked, waited at or was
granted by, the DROP before both and TX before RX; on band NONE an own port is left as well, and nothing takes the choices'
place. -/
def selectionsLeft (s t : State) (new : Band) : Prop :=
  (noneDeferred s → s.bus.queue.length < 10 →
    (∀ name, freeQueued s t name ∧
      ∀ b, s.tok.state ≠ .free → s.tok.band = some b → ∀ e ∈ freeOwed s name, queuedBefore t (.drop b) 255 e.1 e.2) ∧
    ∀ e ∈ freeOwed s .rx, freeBefore s t .tx e.1 e.2) ∧
  (new = 0 →
    t.sel.tx = Selection.reset ∧ t.sel.rx = Selection.reset ∧ (noneDeferred s → ∀ name, leavesOwnPort s t name))

/-- A band change to another band than NONE applies the choices of that band to both records (R94, R100, step 5), `moved` being
the state with the band decoded: FOLLOW, a failed local check, or an ASK to a peer home behind every FREE of the event. -/
def selectionsEntered (s t moved : State) (new : Band) : Prop :=
  ∀ name c, new ≠ 0 → c = choiceOnEntry s new name →
    (c ≤ 16 → (t.selection name).choice = some c) ∧
    (c = 16 → t.selection name = { Selection.reset with choice := some 16 }) ∧
    (∀ entry why, entryOf moved new c = some entry → localCheck moved name entry = some why →
      t.selection name = ⟨.failed, some c, entry, some (.refusedLocally why), none, none, none, none⟩) ∧
    (∀ a, entryOf moved new c = some (some a) → localCheck moved name (some a) = none → homeOf a ≠ s.node →
      noneDeferred s → (∀ q, (s.port q).waits = []) → s.bus.queue.length < 8 →
      t.selection name = ⟨.asking, some c, some a, none, none, some (after s.now (2 * s.interval)), none, none⟩ ∧
      queuedTo t (.ask (portOf a) (useOf name) new s.cfg.cls) (byte (homeOf a).val) ∧
      ∀ old, freeBefore s t old (.ask (portOf a) (useOf name) new s.cfg.cls) (byte (homeOf a).val))

/-! ### Laws that every step keeps -/

/-- The outputs and the step flag that each state of the sequencer allows (R154): on the way up AMP is on when its step is
no more to come, on the way down while its step is still to come (R162, R164). -/
def outputsFit (k : Keying) : Prop :=
  match k.state with
  | .receive | .keyWait | .lockout => k.inhibit = true ∧ k.amp = false ∧ k.stepProtect = false
  | .stepUp => k.inhibit = true ∧ (k.amp = true ↔ k.ampAt = none) ∧ k.stepProtect = true
  | .transmit => k.inhibit = false ∧ k.amp = true ∧ k.stepProtect = true
  | .stepDown => k.inhibit = true ∧ (k.amp = true ↔ k.ampAt ≠ none) ∧ k.stepProtect = true

/-- A keydown under way has its TX selection GRANTED; on the way up and in TRANSMIT the tokens are KEYED; held tokens are for
the decoded band and only in ACTIVE (R111, R113, R162). -/
def transmitBacked (s : State) : Prop :=
  (s.key.state.keyed = true → s.sel.tx.state = .granted) ∧
  ((s.key.state = .stepUp ∨ s.key.state = .transmit) → s.tok.state = .keyed) ∧
  (s.tok.state ≠ .free → s.mode = .active ∧ s.tok.band = some s.band.decoded)

/-- In SETUP the selection, token and port records are as a hard reset left them, the sequencer is at rest, and no RESTART is
held (R39, R67, R114, R187, R189). -/
def setupQuiet (s : State) : Prop :=
  s.mode = .setup →
    s.sel = SelectionUnit.reset ∧ s.arb = Arbiter.reset ∧ s.tok = Tokens.reset ∧ s.host.restartHeld = false ∧
      (s.key.state = .receive ∨ s.key.state = .lockout)

/-- The urgent class of a queued frame. -/
def QueuedFrame.urgent (f : QueuedFrame) : Bool := f.content.kind.urgent

/-- The outbound queue keeps its bounds and its order (R30, R32, R33): at most 12 frames, only the head in flight, waiting
urgent frames ahead of waiting normal ones, at most one waiting ROLL, and the head in flight while the node drives. -/
def queueOrdered (b : Bus) : Prop :=
  b.queue.length ≤ Config.queuePlaces ∧
  (∀ f ∈ b.queue.tail, f.waiting = true) ∧
  (b.queue.filter QueuedFrame.waiting).Pairwise (fun f g => g.urgent = true → f.urgent = true) ∧
  (b.queue.filter (waitingKind .roll)).length ≤ 1 ∧
  (b.driving = true → ∃ h t, b.queue = h :: t ∧ h.waiting = false)

/-- No port has more holders than its share count, and one port at most of a feedline group has holders (R70). -/
def sharesKept (s : State) : Prop :=
  (∀ p d, ownDescriptor s p = some d → (s.port p).holders.length ≤ d.share) ∧
  (∀ p, ownDescriptor s p = none → (s.port p).holders = []) ∧
  (∀ p q, p ≠ q → feedlineOf s p ≠ 0 → feedlineOf s p = feedlineOf s q →
    (s.port p).holders = [] ∨ (s.port q).holders = [])

/-- No guard of the node's own and no remote guard runs on the way up and in TRANSMIT, where INHIBIT is or is to be released
(R162); a tower's sequencer stays in RECEIVE (R169). -/
def noGuardRuns (s : State) : Prop :=
  (s.key.state = .stepUp ∨ s.key.state = .transmit →
    (∀ e, s.drv.localEnd = some e → reached e s.now = true) ∧
      (∀ e, s.sel.tx.guardEnd = some e → reached e s.now = true)) ∧
  (s.isTower = true → s.key.state = .receive)

/-- No port has two entries of one node, as holder, as waiter or as both; a wait list has at most 8 entries and stands in the
order of class (R69). -/
def waitsKept (s : State) : Prop :=
  ∀ p, (s.port p).waits.Pairwise (fun w w' => w.cls.number ≤ w'.cls.number) ∧
    ((s.port p).waits.map Waiter.node).Nodup ∧ (s.port p).waits.length ≤ 8 ∧
    ((s.port p).holders.map Holder.node).Nodup ∧
    ∀ w ∈ (s.port p).waits, ∀ h ∈ (s.port p).holders, w.node ≠ h.node

/-- The levels, PROTECT and ALERT are what the records give (R64, R167, R171, R174). -/
def outputsFollow (s : State) : Prop :=
  s.rep.levels = levelsNow s ∧ s.key.protect = protectNow s ∧ s.rep.alert = alertOf s.rep

/-- Two entries of a stack that stand next to each other differ, and there are at most 4 (R99). -/
def stackKept (l : List (Nat × Nat)) : Prop := l.length ≤ Config.stackPlaces ∧ l.IsChain (fun a b => a ≠ b)

/-- Counters, collapse counts, the changes of the hour and the stacks stay in their ranges (R99, R132, R175, R178). -/
def countsInRange (s : State) : Prop :=
  (∀ c, s.rep.live.get c ≤ 65535) ∧ (∀ c, s.rep.holding.get c ≤ 65535) ∧
  (∀ (n : Node) f, s.rep.faults[n] = some f → f.collapsed ≤ 255) ∧ s.gov.changes ≤ 255 ∧
  (∀ b : Band, stackKept s.sel.memory[b])

/-- The record of the last drive change is in its ranges (R141–R143): 1 to 32 outputs, a settle of 1 to 50 ms, and a guard of
the settle plus the margin, at most 70 ms. In SETUP the word is all 0 and there is none (R150). -/
def driveInRange (s : State) : Prop :=
  (s.mode = .setup → s.drv.word = 0 ∧ s.drv.lastChange = none) ∧
  (∀ c, s.drv.lastChange = some c →
    1 ≤ c.outputs ∧ c.outputs ≤ 32 ∧ 1 ≤ c.settle ∧ c.settle ≤ 50 ∧ c.guard = c.settle + s.cfg.margin ∧ c.guard ≤ 70)

/-- No guard end lies more than 70 ms ahead: neither of the node's own ends, nor a remote one (R22, R102, R143, R145). -/
def guardsWithin (s : State) : Prop :=
  remaining s.drv.localEnd s.now ≤ 70 ∧ remaining s.drv.heldEnd s.now ≤ 70 ∧
    remaining s.sel.tx.guardEnd s.now ≤ 70 ∧ remaining s.sel.rx.guardEnd s.now ≤ 70

/-- While RESET is held, the outputs keep their hard-reset levels and nothing is sent (R188). -/
def heldAtReset (s : State) : Prop :=
  s.inReset = true →
    s.key.inhibit = true ∧ s.key.amp = false ∧ s.key.protect = false ∧ s.rep.alert = false ∧ s.drv.word = 0 ∧
      s.drv.latched = 0 ∧ s.bus.driving = false ∧ s.host.replies = []

/-! ### The checks of START (R139, R185) -/

/-- Two patterns set different levels on one output. -/
def levelsClash (p q : Pattern) : Prop := ∃ output level, (output, level) ∈ p ∧ (output, !level) ∈ q

/-- The antenna patterns of two ports clash, the ports not being of one non-zero feedline group. -/
def antennasClash (cfg : Store) (p q : Port) : Prop :=
  ∃ c d, cfg.antennas[p] = some c ∧ cfg.antennas[q] = some d ∧ levelsClash c.pattern d.pattern ∧
    (c.descriptor.feedline = 0 ∨ c.descriptor.feedline ≠ d.descriptor.feedline)

/-- A band pattern and the antenna pattern of a port clash. -/
def bandClashes (cfg : Store) (p : Port) : Prop :=
  ∃ (b : Band) (c : AntennaConfig), b ≠ 0 ∧ cfg.antennas[p] = some c ∧ levelsClash cfg.bandPatterns[b] c.pattern

/-- Checks 1 to 4 of R185 pass: the node number is below N, a tower has the governor OFF and policy BLOCK, and no pattern names
an output above 31. -/
def firstChecksPass (s : State) : Prop :=
  s.node.val < s.cfg.nodes ∧ (s.cfg.role = .tower → s.cfg.govMode = .off ∧ s.cfg.policy = .block) ∧
    (∀ (p : Port) c, s.cfg.antennas[p] = some c → ∀ e ∈ c.pattern, e.1 ≤ 31) ∧
    (∀ b : Band, ∀ e ∈ s.cfg.bandPatterns[b], e.1 ≤ 31)

/-! ### Ranges -/

/-- A descriptor within the ranges of section 1.2. -/
def Descriptor.inRange (d : Descriptor) : Prop :=
  d.bands ≠ 0 ∧ d.bands.getLsbD 0 = false ∧ 1 ≤ d.share ∧ d.share ≤ 4 ∧ (d.kind = .tx → d.share = 1) ∧
    d.coupling ≤ 15 ∧ d.feedline ≤ 7

/-- Descriptors that a HELLO or a CATALOGUE can carry: each in range, at most 16, in strictly rising port order (R6, R8). -/
def descriptorsInRange (ds : List Descriptor) : Prop :=
  (∀ d ∈ ds, d.inRange) ∧ ds.length ≤ 16 ∧ ds.Pairwise (fun d e => d.port < e.port)

/-- What a frame says lies within the ranges of R22. -/
def Content.inRange : Content → Prop
  | .hello _ ds => descriptorsInRange ds
  | .catalogue _ ds => descriptorsInRange ds
  | .roll r => r.follow = true → r.rx = none
  | .ask _ _ band _ => band ≠ 0
  | .grant _ _ settle => settle ≤ 70
  | .wait _ place => 1 ≤ place ∧ place ≤ 8
  | .refuse _ _ => True
  | .free _ _ _ => True
  | .bid band _ _ => band ≠ 0
  | .txon band _ => band ≠ 0
  | .txoff band _ => band ≠ 0
  | .drop band => band ≠ 0

/-- The items of R183 whose value has a length of its own: the item, the bytes of its value, its lowest and its highest
index. -/
def itemShapes : List (Nat × Nat × Nat × Nat) :=
  [(1, 1, 0, 0), (2, 1, 0, 0), (3, 1, 0, 0), (4, 1, 1, 7), (5, 1, 0, 0), (6, 1, 0, 0), (7, 1, 0, 0), (8, 2, 0, 0),
    (9, 2, 0, 0), (10, 1, 0, 0), (11, 1, 0, 0), (12, 1, 0, 0), (13, 3, 0, 0), (14, 3, 0, 3), (15, 1, 0, 31),
    (16, 1, 0, 31), (19, 2, 1, 7), (20, 2, 1, 7), (21, 1, 0, 63)]

/-- The value bytes of item 17 with another kind than NONE (R183). -/
def antennaBytes (bands kind share coupling feedline : Byte) (pairs : List (Byte × Byte)) : List Byte :=
  [bands, kind, share, coupling, feedline, byte pairs.length] ++ pairs.flatMap (fun e => [e.1, e.2])

/-- The pairs of a pattern are acceptable, in number `least` to 8 (R138). -/
def pairsFit (least : Nat) (pairs : List (Byte × Byte)) : Prop :=
  least ≤ pairs.length ∧ pairs.length ≤ 8 ∧ (∀ e ∈ pairs, e.1.toNat ≤ 31 ∧ e.2.toNat ≤ 1) ∧ (pairs.map Prod.fst).Nodup

/-- The pattern that pairs of bytes give (R138). -/
def patternOfPairs (pairs : List (Byte × Byte)) : Pattern := pairs.map (fun e => (e.1.toNat, e.2 == 1))

/-- A pattern within the ranges of R138, with at least `least` pairs. -/
def patternInRange (least : Nat) (p : Pattern) : Prop :=
  least ≤ p.length ∧ p.length ≤ 8 ∧ (∀ e ∈ p, e.1 ≤ 31) ∧ (p.map Prod.fst).Nodup

/-- Every item of the configuration store within the range that R183 gives it. -/
def Store.inRange (cfg : Store) : Prop :=
  (2 ≤ cfg.nodes ∧ cfg.nodes ≤ 8) ∧ (∀ b : Band, cfg.bandLimit[b] ≤ 3) ∧ (1 ≤ cfg.signalLimit ∧ cfg.signalLimit ≤ 8) ∧
  cfg.hang ≤ 30000 ∧ cfg.d1 ≤ 50 ∧ cfg.d2 ≤ 50 ∧ cfg.margin ≤ 20 ∧ (5 ≤ cfg.orphanHold ∧ cfg.orphanHold ≤ 120) ∧
  cfg.dwell ≤ 60 ∧ cfg.hourLimit ≤ 30 ∧
  (∀ k : Fin 4, 1 ≤ cfg.relayClasses[k].operate ∧ cfg.relayClasses[k].operate ≤ 40 ∧ 1 ≤ cfg.relayClasses[k].release ∧
    cfg.relayClasses[k].release ≤ 40 ∧ cfg.relayClasses[k].bounce ≤ 10) ∧
  (∀ (p : Port) c, cfg.antennas[p] = some c →
    c.descriptor.inRange ∧ c.descriptor.port = p ∧ patternInRange 1 c.pattern) ∧
  (∀ b : Band, patternInRange 0 cfg.bandPatterns[b]) ∧
  (∀ b : Band, cfg.defaultTx[b] ≤ 7) ∧ (∀ b : Band, 8 ≤ cfg.defaultRx[b] ∧ cfg.defaultRx[b] ≤ 16)

end Sys2Proof.Machine
end

