-- ==== Sys2Proof/Certificates/Slice0/Obligations.lean ====
section
/-! DEFINITION. The statements for the provers. -/

open Sys2Proof Sys2Proof.Machine

/-! ### The step and the whole machine -/

/-- Tier 1. The command at the front of the queue runs on the state with the queue's rest. -/
def Obligations.StepRunsFrontCommand : Prop :=
  ∀ (c : Instr) (rest : List Instr) (s : State),
    s.pending = c :: rest → step s = exec c (s.setPending rest)

/-- Tier 1. On an empty queue an event that is due is put into the queue, and no tick passes while any of the timed events is
due; when none is due one tick passes, in which the band lines and PTT are sampled, the chain latches, and the idle count of a
free bus goes on by the character times of a millisecond; while RESET is held nothing moves. When each event is due is as its
rule says (R14, R28, R38, R50, R51, R56, R58, R107, R118, R122, R126, R133, R149, R153, R159, R162, R164, R180, R187). The idle
step and its order of events are the model's choice (log entries 2 and 8), and so are the rest of a character time that the
idle count keeps and the count at the end of the tick by which an attempt is due (log entry 3). -/
def Obligations.EmptyQueueTakesDueEventOrTick : Prop :=
  ∀ s : State, s.pending = [] →
    (s.inReset = true → step s = .next s) ∧
    (s.inReset = false → ∀ i, nextDue s = some i → step s = .next (s.setPending [i]) ∧ Due s i) ∧
    (s.inReset = false → ∀ i, Due s i → nextDue s ≠ none) ∧
    (s.inReset = false → nextDue s = none →
      ∃ t, step s = .next t ∧ t.now = s.now + 1 ∧
        t.key = { s.key with previous := s.key.sample, sample := s.lines.ptt } ∧
        t.band = (if s.lines.band = s.band.candidate then s.band
          else { s.band with candidate := s.lines.band, start := s.now + 1 }) ∧
        t.drv = { s.drv with latched := s.drv.shift.getD s.drv.latched, shift := none } ∧
        t.bus = (if s.bus.free = true then
            { s.bus with
              idle := s.bus.idle + (s.bus.idleRest + 1000) / characterTime s.cfg.rate
              idleRest := (s.bus.idleRest + 1000) % characterTime s.cfg.rate }
          else s.bus) ∧
        ChangesOnly [.now, .key, .band, .drv, .bus] s t)

/-- Tier 2. Every command answers a next state and leaves the queue of commands as it is. -/
def Obligations.EveryCommandKeepsQueue : Prop :=
  ∀ (c : Instr) (s : State), ∃ t, exec c s = .next t ∧ t.pending = s.pending

/-- Tier 2. From START to the next hard reset the configuration, the rules digest, the node number and the link allowance
stay as they are, and the node does not return to SETUP (R183, R186, R187, R37). -/
def Obligations.SessionConstantsHold : Prop :=
  ∀ (c : Instr) (s t : State), s.mode ≠ .setup → (∀ straps byLine, c ≠ .hardReset straps byLine) →
    exec c s = .next t →
    t.cfg = s.cfg ∧ t.digest = s.digest ∧ t.node = s.node ∧ t.bus.allowance = s.bus.allowance ∧ t.mode ≠ .setup

/-! ### Laws that every step keeps -/

/-- Tier 3. INHIBIT is released in TRANSMIT alone, AMP is on from the AMP step of the way up to that of the tail and at no
other time, and the step flag is set from the first step to the end of the tail (R154, R162, R164). -/
def Obligations.OutputsFitKeyingState : Prop :=
  ∀ s t : State, outputsFit s.key → step s = .next t → outputsFit t.key

/-- Tier 3. A keydown in progress has a GRANTED TX selection; from STEP_UP on the tokens are KEYED; held tokens are for the
decoded band in ACTIVE. In STEP_UP and TRANSMIT neither the local nor the remote guard end lies ahead, so that no guard runs
while INHIBIT is released, and a tower's sequencer stays in RECEIVE (R111, R113, R127, R143, R162, R169). The premises on the
two ends leave out an end that has passed by exactly half the range of ticks, which the next tick makes an end to come (log
entry 25). -/
def Obligations.TransmitStaysBacked : Prop :=
  (∀ s t : State, transmitBacked s → step s = .next t → transmitBacked t) ∧
  (∀ s t : State, noGuardRuns s → s.drv.localEnd ≠ some (s.now + 2147483648) →
    s.sel.tx.guardEnd ≠ some (s.now + 2147483648) → step s = .next t → noGuardRuns t)

/-- Tier 3. In SETUP the selection, token and port records stay as a hard reset left them (R67, R92, R114, R154). -/
def Obligations.SetupStaysQuiet : Prop :=
  ∀ s t : State, setupQuiet s → step s = .next t → setupQuiet t

/-- Tier 3. The outbound queue keeps its 12 places, its head in flight, its two classes in order and its one waiting ROLL
(R30, R32, R33). -/
def Obligations.OutboundQueueKeepsOrder : Prop :=
  ∀ s t : State, queueOrdered s.bus → step s = .next t → queueOrdered t.bus

/-- Tier 3. The drive word is the merge of the rest levels, the band pattern and the antenna patterns in force (R140,
R141). -/
def Obligations.DriveWordIsMerge : Prop :=
  ∀ s t : State, s.drv.word = mergedWord s → step s = .next t → t.drv.word = mergedWord t

/-- Tier 3. No step grants a port beyond its share count, or two ports of one feedline group (R70). The premise on SETUP
rules out states whose ports are held before START. No step gives a port two entries of one node, as holder, as waiter or as
both; its wait list keeps at most 8 entries and the order of class (R69). -/
def Obligations.SharesStayKept : Prop :=
  (∀ s t : State, setupQuiet s → sharesKept s → step s = .next t → sharesKept t) ∧
  (∀ s t : State, waitsKept s → step s = .next t → waitsKept t)

/-- Tier 3. The notice levels, PROTECT and ALERT follow the records after every step (R64, R167, R171, R174). A command that
changes a level, whether it rises or falls, sets its change flag, but for a hard reset, which clears both. Any other change
flag of a level stays as it is, but for NOTICES, which clears every flag. READ_BACK_MISMATCH may handle a frame and a give-up,
and so change a level and change it back (R171–R173). -/
def Obligations.OutputsFollowRecords : Prop :=
  (∀ s t : State, setupQuiet s → outputsFollow s → step s = .next t → outputsFollow t) ∧
  (∀ (c : Instr) (s t : State), (∀ straps byLine, c ≠ .hardReset straps byLine) → exec c s = .next t → ∀ k < 7,
    (t.rep.levels.getLsbD k ≠ s.rep.levels.getLsbD k → t.rep.flags.getLsbD k = true) ∧
    (t.rep.levels.getLsbD k = s.rep.levels.getLsbD k → c ≠ .notices →
      (∀ index framing b, c ≠ .readBackMismatch index framing b) →
      t.rep.flags.getLsbD k = s.rep.flags.getLsbD k)) ∧
  (∀ straps byLine (s t : State), exec (.hardReset straps byLine) s = .next t → t.rep.levels = 0 ∧ t.rep.flags = 0)

/-- Tier 3. Counters stop at 65 535, collapse counts and the changes of the hour at 255, and each band's stack keeps at most
4 entries with no entry on an equal one (R99, R132, R175, R178). With the store in range, a drive change holds 1 to 32 outputs,
a settle of 1 to 50 ms and a guard of at most 70 ms, and no command moves a guard end more than 70 ms ahead (R141–R145). -/
def Obligations.CountsAndStacksBounded : Prop :=
  (∀ s t : State, countsInRange s → step s = .next t → countsInRange t) ∧
  (∀ s t : State, s.cfg.inRange → driveInRange s → step s = .next t → driveInRange t) ∧
  (∀ (c : Instr) (s t : State), s.cfg.inRange → guardsWithin s → exec c s = .next t → guardsWithin t)

/-- Tier 3. No step puts an item of the configuration store out of the range of R183. -/
def Obligations.StoreStaysInRange : Prop :=
  ∀ s t : State, s.cfg.inRange → step s = .next t → t.cfg.inRange

/-- Tier 3. While RESET is held the outputs keep their hard-reset levels, nothing is sent and no reply is due (R188). -/
def Obligations.HeldResetKeepsOutputs : Prop :=
  ∀ s t : State, heldAtReset s → step s = .next t → heldAtReset t

/-- Tier 1. The laws hold right after reset (R188). -/
def Obligations.LawsHoldAtReset : Prop :=
  outputsFit State.reset.key ∧ transmitBacked State.reset ∧ setupQuiet State.reset ∧ queueOrdered State.reset.bus ∧
    State.reset.drv.word = mergedWord State.reset ∧ sharesKept State.reset ∧ outputsFollow State.reset ∧
    countsInRange State.reset ∧ State.reset.cfg.inRange ∧ heldAtReset State.reset ∧ driveInRange State.reset ∧
    guardsWithin State.reset ∧ noGuardRuns State.reset ∧ waitsKept State.reset

/-! ### Reset -/

/-- Tier 1. HARD_RESET: node number sampled from the straps, timebase at 0, SETUP, every item of the store at its hard-reset
value and every block at its hard-reset state (R188, R183 and the reset sentences of R14, R36, R67, R92, R114, R132, R140,
R154, R172, R174). These values are the model's choices: that the levels of the input pins are kept (log entry 4), the idle bus
before START (log entry 5), the fields of an ABSENT record that have no meaning, the last-peer-frame tick 0 and the
sent-since-isolation flag clear (log entry 6), the count of free values kept (log entry 7), the tick of the last host byte 0
(log entry 20) and the rest of a character time 0 (log entry 3). -/
def Obligations.HardResetRestoresNode : Prop :=
  ∀ (straps : BitVec 3) (byLine : Bool) (s : State),
    ∃ t, exec (.hardReset straps byLine) s = .next t ∧ t.pending = s.pending ∧ t.freeIndex = s.freeIndex ∧
      t.node.val = straps.toNat ∧ t.inReset = byLine ∧ t.now = 0 ∧ t.mode = .setup ∧
      t.lines = { s.lines with straps := straps } ∧
      t.digest = none ∧ t.cfg.nodes = 2 ∧ t.cfg.rate = .r62500 ∧ t.cfg.interval = .ms250 ∧ t.cfg.signalLimit = 1 ∧
      t.cfg.role = .position ∧ t.cfg.cls = .aux ∧ t.cfg.hang = 0 ∧ t.cfg.d1 = 0 ∧ t.cfg.d2 = 0 ∧ t.cfg.margin = 20 ∧
      t.cfg.policy = .block ∧ t.cfg.orphanHold = 30 ∧ t.cfg.dwell = 0 ∧ t.cfg.hourLimit = 0 ∧ t.cfg.govMode = .off ∧
      (∀ k : Fin 4, t.cfg.relayClasses[k] = ⟨40, 40, 10⟩) ∧ (∀ o : Fin 32, t.cfg.outputClass[o] = 0) ∧ t.cfg.rest = 0 ∧
      (∀ p : Port, t.cfg.antennas[p] = none) ∧ (∀ e : Fin 64, t.cfg.entries[e] = none) ∧
      (∀ b : Band, t.cfg.bandLimit[b] = 0 ∧ t.cfg.bandPatterns[b] = [] ∧ t.cfg.sliceTx[b] = 0 ∧ t.cfg.sliceRx[b] = 0 ∧
        t.cfg.defaultTx[b] = 0 ∧ t.cfg.defaultRx[b] = 16) ∧
      t.band = ⟨0, 0, s.lines.band, 0⟩ ∧
      t.bus.queue = [] ∧ t.bus.driving = false ∧ t.bus.sequence = 0 ∧ t.bus.epoch = 0 ∧ t.bus.nextRoll = none ∧
      t.bus.allowance = none ∧ t.bus.free = false ∧ t.bus.idle = 0 ∧ t.bus.idleRest = 0 ∧ t.bus.openFrame = none ∧
      t.bus.stray = [] ∧ t.bus.complete = none ∧ t.bus.afterComplete = false ∧
      (∀ n : Node, t.learned[n] = ⟨false, []⟩ ∧ t.peer n = Peer.reset ∧ t.bids[n] = none ∧ t.rep.faults[n] = none) ∧
      t.tracker.isolated = false ∧ t.tracker.listenInEnd = none ∧ t.tracker.lastPeerFrame = 0 ∧
      t.tracker.sentSince = false ∧ (∀ p : Port, t.port p = ⟨false, [], [], false, ⟨false, false⟩⟩) ∧ t.arb.arrivals = 0 ∧
      t.sel.tx = Selection.reset ∧ t.sel.rx = Selection.reset ∧ t.sel.slotTx = none ∧ t.sel.slotRx = none ∧
      t.sel.pendingRelease = none ∧ t.sel.actualScope = .nothing ∧ (∀ b : Band, t.sel.memory[b] = []) ∧
      t.tok = ⟨.free, none, none, false, none, none⟩ ∧ t.gov = ⟨none, none, 0, none⟩ ∧
      t.drv = ⟨0, none, none, none, none, 0, 100⟩ ∧
      t.key.state = .receive ∧ t.key.reason = none ∧ t.key.lastReason = none ∧ t.key.level = false ∧
      t.key.previous = false ∧ t.key.sample = s.lines.ptt ∧ t.key.inhibit = true ∧ t.key.amp = false ∧
      t.key.protect = false ∧ t.key.stepProtect = false ∧ t.key.leadLength = 0 ∧ t.key.lead = .nothing ∧
      t.key.ampAt = none ∧ t.key.lastAt = none ∧ t.key.tail = none ∧
      t.rep.levels = 0 ∧ t.rep.flags = 0 ∧ t.rep.mask = 0 ∧ t.rep.enabled = false ∧ t.rep.alert = false ∧
      (∀ c, t.rep.live.get c = 0 ∧ t.rep.holding.get c = 0) ∧ t.rep.snapshotTick = none ∧
      t.host = ⟨[], false, false, [], false, 0⟩

/-- Tier 2. While RESET is held every command but a reset and its release leaves everything but the levels of the input
pins; BAND_LINES_CHANGE, PTT_PRESS and PTT_RELEASE set those. RESET_RELEASED ends the hold and changes nothing else (R188;
that nothing but the pins moves is the model's reading, log entry 8). -/
def Obligations.HeldResetTakesOnlyPins : Prop :=
  (∀ (c : Instr) (s : State), s.inReset = true → c ≠ .resetReleased → (∀ straps byLine, c ≠ .hardReset straps byLine) →
    ∃ t, exec c s = .next t ∧ ChangesOnly [.lines] s t ∧
      (∀ code, c = .bandLinesChange code → t.lines = { s.lines with band := code }) ∧
      (c = .pttPress → t.lines = { s.lines with ptt := true }) ∧
      (c = .pttRelease → t.lines = { s.lines with ptt := false })) ∧
  (∀ s : State, ∃ t, exec .resetReleased s = .next t ∧ t.inReset = false ∧ ChangesOnly [.inReset] s t)

/-! ### Band lines -/

/-- Tier 1. A sample of the band lines that differs from the candidate becomes the new candidate with its start; one that
equals it changes nothing (R14). A tick has one sample: where this tick's has begun the candidate, or the candidate settled on
it, BAND_LINES_CHANGE moves the pins alone. That BAND_LINES_CHANGE is the tick's sample otherwise is the model's choice (log
entry 36). -/
def Obligations.BandLinesRestartCandidate : Prop :=
  ∀ (code : BitVec 4) (s : State), s.inReset = false →
    ∃ t, exec (.bandLinesChange code) s = .next t ∧ t.lines = { s.lines with band := code } ∧
      (s.band.start = s.now ∨ (s.band.candidate = s.band.settled ∧ after s.band.start 20 = s.now) →
        ChangesOnly [.lines] s t) ∧
      (s.band.start ≠ s.now → s.band.candidate ≠ s.band.settled ∨ after s.band.start 20 ≠ s.now →
        t.band = (if code = s.band.candidate then s.band else { s.band with candidate := code, start := s.now }) ∧
        ChangesOnly [.lines, .band] s t)

/-- Tier 2. A candidate that has stood 20 ticks and is not the settled code settles; codes 1 to 7 decode to their band, 0 and
8 to 15 to NONE (R13, R14). A code that decodes as before changes nothing else. At a tower the decoded band stays (R15). -/
def Obligations.BandSettleDecodesCode : Prop :=
  ∀ s : State, s.inReset = false → s.band.candidate ≠ s.band.settled →
    reached (after s.band.start 20) s.now = true →
    ∃ t, exec .bandSettle s = .next t ∧ t.band.settled = s.band.candidate ∧ t.band.candidate = s.band.candidate ∧
      t.band.start = s.band.start ∧
      (s.isTower = false → t.band.decoded.val = if s.band.candidate.toNat ≤ 7 then s.band.candidate.toNat else 0) ∧
      (s.isTower = true → t.band.decoded = s.band.decoded) ∧
      ChangesOnly (.band :: keyBlocks) s t ∧
      (t.band.decoded = s.band.decoded → ChangesOnly [.band] s t)

/-- Tier 2. A band change at a position in ACTIVE ends a keydown with a forced abort BAND_CHANGE, from the point reached, and
leaves the sequencer as it was in any other state; it frees the tokens, a DROP queued where they were not FREE; it drops the
pending work, pushes the selections' pair on the stack of the band left, gives both records up, their FREEs queued behind the
DROP, and on a new band applies the top pair of its stack or its defaults, the ASKs queued behind the FREEs; the merger merges
the new band's pattern. In SETUP and LISTEN_IN the selections stay (R17, R18, R92, R94, R97–R100, R127, R147, R164, R165). That
pending work is dropped before the abort, so that it does not change the pair pushed, is log entry 10. -/
def Obligations.BandChangeEndsKeydown : Prop :=
  ∀ s : State, s.inReset = false → s.isTower = false → s.band.candidate ≠ s.band.settled →
    reached (after s.band.start 20) s.now = true → decodeBand s.band.candidate ≠ s.band.decoded →
    (s.mode = .active →
      ∃ t, exec .bandSettle s = .next t ∧ t.band.decoded = decodeBand s.band.candidate ∧ t.tok.state = .free ∧
        tokensDropped s t ∧
        (s.key.state.keyed = true → keydownEnds s t .bandChange) ∧
        (s.key.state.keyed = false → keyingKept s t ∧ t.rep.live.keyAborts = s.rep.live.keyAborts ∧
          t.rep.live.keyRefusals = s.rep.live.keyRefusals) ∧
        nothingPending t ∧
        t.sel.actualScope = (if s.sel.pendingRelease = none then s.sel.actualScope else .nothing) ∧
        stacksChanged s t (decodeBand s.band.candidate) ∧
        selectionsLeft s t (decodeBand s.band.candidate) ∧
        selectionsEntered s t (s.setBand { s.band with decoded := decodeBand s.band.candidate })
          (decodeBand s.band.candidate) ∧
        t.drv.word = mergedWord t ∧ ChangesOnly (.band :: keyBlocks) s t) ∧
    (s.mode ≠ .active → s.key.state.keyed = false → s.tok.state = .free → noneDeferred s →
      ∃ t, exec .bandSettle s = .next t ∧ t.band.decoded = decodeBand s.band.candidate ∧ keyingKept s t ∧ t.sel = s.sel ∧
        (s.mode = .listenIn → t.drv.word = mergedWord t ∧ driveMoved s t ∧ ChangesOnly [.band, .drv, .rep, .key] s t) ∧
        (s.mode = .setup → ChangesOnly [.band, .rep, .key] s t))

/-! ### Keying -/

/-- Tier 2. A PTT press taken in RECEIVE is refused for the first check that fails, in the order of R155: LOCKOUT with the
reason, KEY_REFUSALS and the KEY_REFUSED notice, and nothing brought up (R155, R156). In any other state it starts no keydown,
and at a TOWER it reaches no state: the debounced level alone changes (R155, R169). It is taken when two consecutive samples
show it (R153); else PTT_PRESS moves the pin alone, which is the model's choice (log entry 46). That a GRANTED record with no
antenna is refused with NO_ANTENNA is the model's choice (log entry 33). -/
def Obligations.PressRefusedInOrder : Prop :=
  ∀ s : State,
    (∀ why, s.inReset = false → pttShows s true → s.isTower = false → s.key.state = .receive → refusedFor s why →
      ∃ t, exec .pttPress s = .next t ∧ t.key.level = true ∧ t.key.sample = true ∧ t.key.previous = true ∧
        t.key.state = .lockout ∧ t.key.reason = some why ∧ t.key.lastReason = some why ∧
        t.key.inhibit = s.key.inhibit ∧ t.key.amp = s.key.amp ∧ t.key.stepProtect = s.key.stepProtect ∧
        t.rep.live.keyRefusals = saturate s.rep.live.keyRefusals 1 ∧ t.rep.live.keyAborts = s.rep.live.keyAborts ∧
        flagged t .keyRefused ∧ (why = .governor → flagged t .governor) ∧ ChangesOnly keyBlocks s t) ∧
    (s.inReset = false → pttShows s true → s.isTower = true ∨ s.key.state ≠ .receive → settled s →
      ∃ t, exec .pttPress s = .next t ∧ t.key = { s.key with level := true, protect := t.key.protect } ∧
        ChangesOnly [.key, .rep] s t) ∧
    (¬ pttShows s true → ∃ t, exec .pttPress s = .next t ∧ pttPinMoves s t true)

/-- Tier 2. A press that passes the checks enters KEY_WAIT in the same tick with lead A when a peer listens on a coupled
antenna and else 0, met at once when 0 (its end then: log entry 42). With the tokens FREE, or BIDDING with another antenna, the
token unit bids for the decoded band and the lead is counted from the BID; BIDDING with the same antenna joins the bid, and the
lead is counted from its completion, past or to come. A BID discarded under overrun refuses the keydown with LINK. A governor
check that fails in WARN counts a warning and raises its notice (R115, R116, R134, R157, R158, R161). -/
def Obligations.PressEntersKeyWait : Prop :=
  ∀ (s : State) (a : Antenna), keydownPasses s a → noneDeferred s →
    (s.tok.state = .free ∨ (s.tok.state = .bidding ∧ s.tok.antenna ≠ some a) → s.bus.queue.length < 12 →
      ∃ t, exec .pttPress s = .next t ∧ t.key.state = .keyWait ∧ t.key.level = true ∧ t.key.leadLength = leadOf s a ∧
        t.key.lead = (if leadOf s a = 0 then .met else .awaitsBid) ∧ t.key.reason = none ∧ t.key.lastReason = none ∧
        t.key.inhibit = s.key.inhibit ∧ t.key.amp = s.key.amp ∧
        t.tok = ⟨.bidding, some s.band.decoded, some a, true, none, none⟩ ∧
        queuedTo t (.bid s.band.decoded s.cfg.cls a) 255 ∧ t.bus.queue.length = s.bus.queue.length + 1 ∧
        governorWarned s t ∧ ChangesOnly [.key, .tok, .bus, .rep] s t) ∧
    (s.tok.state = .free → s.bus.queue.length = 12 → s.bus.queue.any (waitingKind .roll) = false →
      s.bus.queue.any (waitingKind .catalogue) = false → nothingPending s →
      ∃ t, exec .pttPress s = .next t ∧ t.key.state = .lockout ∧ t.key.reason = some .link ∧ t.tok = Tokens.reset ∧
        t.rep.live.keyRefusals = saturate s.rep.live.keyRefusals 1 ∧ flagged t .keyRefused ∧ flagged t .overrun ∧
        ChangesOnly [.key, .tok, .bus, .drv, .rep] s t) ∧
    (s.tok.state = .bidding → s.tok.antenna = some a →
      ∃ t, exec .pttPress s = .next t ∧ t.key.state = .keyWait ∧ t.key.level = true ∧ t.key.leadLength = leadOf s a ∧
        (leadOf s a = 0 → t.key.lead = .met) ∧
        (leadOf s a ≠ 0 → s.tok.awaitedBid = true → t.key.lead = .awaitsBid) ∧
        (∀ w, leadOf s a ≠ 0 → s.tok.awaitedBid = false → s.tok.windowEnd = some w →
          t.key.lead = .ends (after (w - BitVec.ofNat 32 (2 * s.allowance)) (leadOf s a))) ∧
        governorWarned s t ∧ ChangesOnly [.key, .rep] s t)

/-- Tier 2. A press that passes the checks with the tokens HANGING, or that wins the window count in isolation under LOCAL,
keys at once: KEYED for the decoded band, a TXON queued, the governor's commit made, and the lead counted from the TXON unless
it is 0. In isolation under LOCAL a count that is lost refuses it with TOKEN_BUSY. A TXON discarded under overrun while the
lead is to be counted from it leaves the tokens HANGING and refuses with LINK (R118, R125, R131, R134, R135, R157, R158, R161).
-/
def Obligations.PressFromHangingKeysAtOnce : Prop :=
  ∀ (s : State) (a : Antenna), noneDeferred s →
    ((keydownPasses s a ∧ s.tok.state = .hanging) ∨ (isolatedPasses s a ∧ (s.tok.state = .hanging ∨
        (s.tok.state = .free ∧ bandCount s s.band.decoded < s.cfg.bandLimit[s.band.decoded] ∧
          signalCount s < s.cfg.signalLimit))) →
      (s.bus.queue.length < 12 →
        ∃ t, exec .pttPress s = .next t ∧ t.key.state = .keyWait ∧ t.key.level = true ∧ t.key.leadLength = leadOf s a ∧
          t.key.lead = (if leadOf s a = 0 then .met else .awaitsTxon) ∧
          t.tok = ⟨.keyed, some s.band.decoded, some a, false, none, none⟩ ∧
          queuedTo t (.txon s.band.decoded a) 255 ∧ governorCommits s t s.band.decoded ∧
          (s.cfg.govMode = .warn → governorFails s = true →
            t.rep.live.governorWarnings = saturate s.rep.live.governorWarnings 1 ∧ flagged t .governor) ∧
          ChangesOnly [.key, .tok, .bus, .rep, .gov] s t) ∧
      (s.bus.queue.length = 12 → s.bus.queue.any (waitingKind .roll) = false →
        s.bus.queue.any (waitingKind .catalogue) = false → leadOf s a ≠ 0 → nothingPending s →
        ∃ t, exec .pttPress s = .next t ∧ t.key.state = .lockout ∧ t.key.reason = some .link ∧ t.tok.state = .hanging ∧
          t.tok.band = some s.band.decoded ∧ t.tok.hangEnd = some (after s.now s.cfg.hang) ∧
          t.rep.live.keyRefusals = saturate s.rep.live.keyRefusals 1 ∧ flagged t .keyRefused ∧ flagged t .overrun ∧
          ChangesOnly [.key, .tok, .bus, .rep, .drv, .gov] s t)) ∧
    (isolatedPasses s a → s.tok.state = .free → nothingPending s →
      s.cfg.bandLimit[s.band.decoded] ≤ bandCount s s.band.decoded ∨ s.cfg.signalLimit ≤ signalCount s →
      ∃ t, exec .pttPress s = .next t ∧ t.key.state = .lockout ∧ t.key.reason = some .tokenBusy ∧ t.tok = s.tok ∧
        t.bus.queue = s.bus.queue ∧ t.rep.live.keyRefusals = saturate s.rep.live.keyRefusals 1 ∧ flagged t .keyRefused ∧
        ChangesOnly [.key, .drv, .rep] s t)

/-- Tier 2. A PTT release acts by the state it is taken in: back to RECEIVE from LOCKOUT and KEY_WAIT, the tail from the step
reached, and KEYED tokens to HANGING with a TXOFF queued. Work that is pending when it ends a KEY_WAIT, or a STEP_UP with
nothing brought up, is carried out in the same tick, the FREEs that the records given up owe their homes ahead of the ASKs
(R92, R94, R98, R124, R163, R164). At a TOWER it reaches no state: the debounced level alone changes (R169). It is taken when
two consecutive samples show it (R153); else PTT_RELEASE moves the pin alone, which is the model's choice (log entry 46). -/
def Obligations.ReleaseActsByState : Prop :=
  ∀ s : State,
    (s.inReset = false → pttShows s false → s.isTower = false → noneDeferred s →
      (nothingPending s ∨ s.key.state = .receive ∨ s.key.state = .stepDown ∨ tailRuns s →
        ∃ t, exec .pttRelease s = .next t ∧ t.key.level = false ∧ t.key.sample = false ∧ t.key.previous = false ∧
          ChangesOnly [.key, .tok, .bus, .drv, .rep] s t ∧
          (s.key.state = .receive ∨ s.key.state = .stepDown →
            t.key.state = s.key.state ∧ ChangesOnly [.key, .rep] s t) ∧
          (s.key.state = .lockout →
            t.key.state = .receive ∧ t.key.reason = none ∧ t.key.lastReason = s.key.lastReason ∧ t.tok = s.tok) ∧
          (s.key.state = .keyWait → t.key.state = .receive ∧ t.key.lead = .nothing ∧ t.key.amp = s.key.amp) ∧
          (s.key.state = .stepUp → s.key.amp = true →
            t.key.state = .stepDown ∧ t.key.tail = some .unkey ∧ t.key.amp = false ∧ t.key.inhibit = true ∧
            t.key.stepProtect = s.key.stepProtect ∧ t.key.lastAt = some (after s.now s.cfg.d1)) ∧
          (s.key.state = .stepUp → s.key.amp = false →
            t.key.state = .receive ∧ t.key.inhibit = true ∧ t.key.stepProtect = false) ∧
          (s.key.state = .transmit →
            t.key.state = .stepDown ∧ t.key.tail = some .unkey ∧ t.key.amp = s.key.amp ∧ t.key.inhibit = true ∧
            t.key.ampAt = some (after s.now s.cfg.d2) ∧ t.key.lastAt = some (after s.now (s.cfg.d2 + s.cfg.d1))) ∧
          (s.key.state.keyed = true → s.tok.state ≠ .keyed → t.tok = s.tok) ∧
          (∀ b a, s.key.state.keyed = true → s.tok.state = .keyed → s.tok.band = some b → s.tok.antenna = some a →
            t.tok.state = .hanging ∧ t.tok.band = some b ∧ t.tok.hangEnd = some (after s.now s.cfg.hang) ∧
            (s.bus.queue.length < 12 → ∃ f ∈ t.bus.queue, f.content = .txoff b a ∧ f.destination = 255))) ∧
      (∀ hanging, s.key.state = .keyWait ∨ (s.key.state = .stepUp ∧ s.key.amp = false) →
        (hanging = false ∧ s.tok.state = .bidding) ∨
          (hanging = true ∧ s.tok.state = .keyed ∧ s.tok.band ≠ none ∧ s.tok.antenna ≠ none) →
        ∃ t, exec .pttRelease s = .next t ∧ t.key.state = .receive ∧ pendingCarriedOut s t hanging ∧
          ChangesOnly keyBlocks s t)) ∧
    (s.inReset = false → pttShows s false → s.isTower = true → settled s →
      ∃ t, exec .pttRelease s = .next t ∧ t.key = { s.key with level := false, protect := t.key.protect } ∧
        ChangesOnly [.key, .rep] s t) ∧
    (¬ pttShows s false → ∃ t, exec .pttRelease s = .next t ∧ pttPinMoves s t false)

/-- Tier 2. The key-wait ends into STEP_UP when its four conditions are met, with PROTECT on and the two step ticks set; while
one is unmet the command changes nothing (R159, R162; that it changes nothing is log entry 1). -/
def Obligations.KeyWaitEndsWhenAllMet : Prop :=
  ∀ s : State, s.inReset = false → s.isTower = false → s.key.state = .keyWait →
    (keyWaitMet s →
      ∃ t, exec .keyWaitEnd s = .next t ∧ t.key.state = .stepUp ∧ t.key.stepProtect = true ∧ t.key.protect = true ∧
        t.key.amp = s.key.amp ∧ t.key.inhibit = s.key.inhibit ∧ t.key.ampAt = some (after s.now s.cfg.d1) ∧
        t.key.lastAt = some (after s.now (s.cfg.d1 + s.cfg.d2)) ∧ ChangesOnly [.key, .rep] s t) ∧
    (¬ keyWaitMet s → exec .keyWaitEnd s = .next s)

/-- Tier 1. AMP goes on at its tick, and INHIBIT is released into TRANSMIT at its tick and only after AMP (R162). An INHIBIT
step before AMP is on changes nothing (log entry 1). -/
def Obligations.StepUpStepsInOrder : Prop :=
  ∀ (s : State) (u : Tick), s.inReset = false → s.key.state = .stepUp → reached u s.now = true →
    (s.key.amp = false → s.key.ampAt = some u →
      ∃ t, exec .ampStep s = .next t ∧ t.key.state = .stepUp ∧ t.key.amp = true ∧ t.key.inhibit = s.key.inhibit ∧
        t.key.lastAt = s.key.lastAt ∧ t.key.stepProtect = s.key.stepProtect ∧ ChangesOnly [.key] s t) ∧
    (s.key.amp = true → s.key.lastAt = some u →
      ∃ t, exec .inhibitStep s = .next t ∧ t.key.state = .transmit ∧ t.key.inhibit = false ∧ t.key.amp = true ∧
        t.key.stepProtect = s.key.stepProtect ∧ ChangesOnly [.key] s t) ∧
    (s.key.amp = false → exec .inhibitStep s = .next s)

/-- Tier 2. In the tail AMP goes off at its tick; at its end an unkey tail with PTT released comes to RECEIVE, and an abort
tail to LOCKOUT with its reason, left at once when PTT is released; the held-over guard end is then folded into the local one,
to no effect when it has passed, and the work that was put aside is carried out as one event, its FREEs ahead of its ASKs (R92,
R94, R98, R144, R164). With PTT pressed again an unkey tail ends in a press taken in RECEIVE: refused for the first check that
fails (a GRANTED record with no antenna: log entry 33), or else keyed at once from HANGING, or by a bid from FREE (R116, R125,
R155, R157). -/
def Obligations.TailStepsAndEnd : Prop :=
  ∀ (s : State) (u : Tick), s.inReset = false → s.key.state = .stepDown → reached u s.now = true →
    (s.key.ampAt = some u →
      ∃ t, exec .tailAmpStep s = .next t ∧ t.key.state = .stepDown ∧ t.key.amp = false ∧ t.key.ampAt = none ∧
        t.key.inhibit = s.key.inhibit ∧ t.key.lastAt = s.key.lastAt ∧ t.key.tail = s.key.tail ∧
        ChangesOnly [.key] s t) ∧
    (s.key.ampAt = none → s.key.lastAt = some u → noneDeferred s →
      ((s.key.tail = some .unkey ∧ s.key.level = false) ∨ (∃ r, s.key.tail = some (.abort r)) →
        ∃ t, exec .tailEnd s = .next t ∧ t.key.stepProtect = false ∧ t.key.amp = false ∧
          t.key.inhibit = s.key.inhibit ∧
          (s.key.tail = some .unkey → t.key.state = .receive) ∧
          (∀ r, s.key.tail = some (.abort r) →
            t.key.state = (if s.key.level then .lockout else .receive) ∧ t.key.lastReason = some r.lock ∧
            t.key.reason = (if s.key.level then some r.lock else none)) ∧
          (nothingPending s → t.drv = { s.drv with localEnd := foldedLocalEnd s, heldEnd := none } ∧
            ChangesOnly [.key, .drv, .rep] s t) ∧
          pendingCarriedOut s t (s.tok.state == .hanging) ∧ ChangesOnly keyBlocks s t) ∧
      (s.key.tail = some .unkey → s.key.level = true → nothingPending s → s.isTower = false →
        (∀ why, refusedFor s why →
          ∃ t, exec .tailEnd s = .next t ∧ t.key.state = .lockout ∧ t.key.reason = some why ∧
            t.key.stepProtect = false ∧ t.key.amp = false ∧ t.key.inhibit = s.key.inhibit ∧ t.tok = s.tok ∧
            t.rep.live.keyRefusals = saturate s.rep.live.keyRefusals 1 ∧ flagged t .keyRefused ∧
            ChangesOnly [.key, .drv, .rep] s t) ∧
        (∀ a, keydownChecks s a → s.tracker.isolated = false → s.bus.queue.length < 12 →
          (s.tok.state = .hanging →
            ∃ t, exec .tailEnd s = .next t ∧ t.key.state = .keyWait ∧ t.key.leadLength = leadOf s a ∧
              t.key.lead = (if leadOf s a = 0 then .met else .awaitsTxon) ∧ t.key.stepProtect = false ∧
              t.key.amp = false ∧ t.key.inhibit = s.key.inhibit ∧
              t.tok = ⟨.keyed, some s.band.decoded, some a, false, none, none⟩ ∧
              queuedTo t (.txon s.band.decoded a) 255 ∧ governorCommits s t s.band.decoded ∧
              t.drv = { s.drv with localEnd := foldedLocalEnd s, heldEnd := none } ∧
              ChangesOnly [.key, .tok, .bus, .rep, .gov, .drv] s t) ∧
          (s.tok.state = .free →
            ∃ t, exec .tailEnd s = .next t ∧ t.key.state = .keyWait ∧ t.key.leadLength = leadOf s a ∧
              t.key.lead = (if leadOf s a = 0 then .met else .awaitsBid) ∧
              t.tok = ⟨.bidding, some s.band.decoded, some a, true, none, none⟩ ∧
              queuedTo t (.bid s.band.decoded s.cfg.cls a) 255 ∧ ChangesOnly [.key, .tok, .bus, .rep, .drv] s t))))

/-! ### The station bus -/

/-- Tier 2. When the bus becomes free, a frame still open and a stray fragment are each rejected, counted once and nothing
else, and the idle count runs from 0 (R19, R24, R25). -/
def Obligations.BusFreeClosesAssembly : Prop :=
  ∀ s : State, s.running = true → s.bus.driving = false → s.bus.free = false → s.rep.live.framesRejected ≤ 65535 →
    ∃ t, exec .busFree s = .next t ∧ t.bus.free = true ∧ t.bus.idle = 0 ∧ t.bus.idleRest = 0 ∧
      t.bus.openFrame = none ∧ t.bus.stray = [] ∧
      t.bus.afterComplete = false ∧ t.bus.queue = s.bus.queue ∧ t.bus.sequence = s.bus.sequence ∧
      (∀ k, k = (if s.bus.openFrame = none then 0 else 1) + (if s.bus.stray = [] then 0 else 1) →
        t.rep.live = { s.rep.live with framesRejected := saturate s.rep.live.framesRejected k }) ∧
      t.rep.flags = s.rep.flags ∧ t.rep.faults = s.rep.faults ∧ ChangesOnly [.bus, .rep] s t

/-- Tier 2. A character is a start bit, eight data bits with the least significant first, the framing bit and a stop bit, 176,
88 or 44 µs long, and the framing bit is 1 on the first character of a frame alone (R19). Characters are assembled as R24
gives: a framing bit opens a frame, the fifth character fixes its total, other characters are stray, and a framing bit inside a
frame rejects what was open and opens anew. The character that reaches the total closes the frame, which is checked and handed
on in that command as its row is (R24, R25, R27): no step leaves a complete frame unchecked. That a character after a complete
frame is stray whatever its framing bit is log entry 9. -/
def Obligations.CharactersAreAssembled : Prop :=
  (∀ framing b, characterBits framing b =
    [.start, .data (b.getLsbD 0), .data (b.getLsbD 1), .data (b.getLsbD 2), .data (b.getLsbD 3), .data (b.getLsbD 4),
      .data (b.getLsbD 5), .data (b.getLsbD 6), .data (b.getLsbD 7), .framing framing, .stop]) ∧
  (∀ f b rest, wireChars f = b :: rest → frameBits f = characterBits true b ++ rest.flatMap (characterBits false)) ∧
  [BusRate.r62500, .r125000, .r250000].map characterTime = [176, 88, 44] ∧
  (∀ (s : State) (b : Byte), s.listens = true → s.bus.complete = none →
    (s.bus.openFrame = none → s.bus.afterComplete = false →
      ∃ t, exec (.busBusy true b) s = .next t ∧ t.bus = { s.bus with free := false, openFrame := some [b] } ∧
        ChangesOnly [.bus] s t) ∧
    (s.bus.openFrame = none → ∀ framing, framing = false ∨ s.bus.afterComplete = true →
      ∃ t, exec (.busBusy framing b) s = .next t ∧
        t.bus = { s.bus with free := false, stray := s.bus.stray ++ [b] } ∧ ChangesOnly [.bus] s t) ∧
    (∀ cs, s.bus.openFrame = some cs →
      (∀ length, (cs ++ [b])[4]? = some length → cs.length + 1 = 7 + length.toNat →
        ∃ f, frameOfChars (cs ++ [b]) = some f ∧ wireChars f = cs ++ [b] ∧
          exec (.busBusy false b) s = exec (rowOf s f) s) ∧
      ((∀ length, (cs ++ [b])[4]? = some length → cs.length + 1 ≠ 7 + length.toNat) →
        ∃ t, exec (.busBusy false b) s = .next t ∧
          t.bus = { s.bus with free := false, openFrame := some (cs ++ [b]) } ∧ ChangesOnly [.bus] s t) ∧
      (∃ t, exec (.framingBitInsideFrame b) s = .next t ∧
        t.bus = { s.bus with free := false, openFrame := some [b] } ∧
        t.rep = { s.rep with live := { s.rep.live with framesRejected := saturate s.rep.live.framesRejected 1 } } ∧
        ChangesOnly [.bus, .rep] s t))) ∧
  (∀ s t : State, s.bus.complete = none → step s = .next t → t.bus.complete = none)

/-- Tier 2. An attempt starts only on a free bus, once the idle count has reached the access gap of the head of the queue, and
drives that frame; each attempt is counted; the first takes the own sequence, which advances by 1, and an ASK's number is
reported to its record; a retry keeps its number (R28, R30, R35). That the count is taken as it stands at the end of the
present tick is log entry 3; that an attempt before its gap or on a busy bus changes nothing is log entry 1. -/
def Obligations.AttemptTakesSequenceNumber : Prop :=
  ∀ (s : State) (f : QueuedFrame) (rest : List QueuedFrame) (gap count : Nat), s.running = true → s.bus.driving = false →
    s.bus.queue = f :: rest →
    gap = (if f.attempts ≠ 0 then 20 else if f.content.kind.urgent then 2 else 12) + s.node.val →
    count = s.bus.idle + (s.bus.idleRest + 1000) / characterTime s.cfg.rate →
    (s.bus.free = true → gap ≤ count →
      ∃ t, exec .frameAttemptStart s = .next t ∧ t.bus.driving = true ∧ t.bus.free = false ∧
        t.bus.idle = max s.bus.idle gap ∧ t.bus.epoch = s.bus.epoch ∧
        (f.attempts = 0 →
          t.bus.queue = { f with attempts := 1, sequence := some s.bus.sequence } :: rest ∧
          t.bus.sequence = s.bus.sequence + 1) ∧
        (f.attempts ≠ 0 →
          t.bus.queue = { f with attempts := f.attempts + 1 } :: rest ∧ t.bus.sequence = s.bus.sequence) ∧
        (f.attempts = 0 → f.owned = true → ∀ port band cls, f.content = .ask port .tx band cls →
          t.sel = { s.sel with tx := { s.sel.tx with askSequence := some s.bus.sequence } }) ∧
        (f.attempts = 0 → f.owned = true → ∀ port band cls, f.content = .ask port .listen band cls →
          t.sel = { s.sel with rx := { s.sel.rx with askSequence := some s.bus.sequence } }) ∧
        (f.attempts ≠ 0 ∨ f.content.kind ≠ .ask → t.sel = s.sel) ∧ ChangesOnly [.bus, .sel] s t) ∧
    (s.bus.free = false ∨ count < gap → exec .frameAttemptStart s = .next s)

/-- Tier 2. A character read back as another fails the attempt: driving stops and the frame stays at the head with its count.
At the eighth attempt the frame is given up: removed, LINK_FAILURES counted, isolation set in ACTIVE and not in LISTEN_IN. In
ACTIVE, a keydown whose BID it was is refused with LINK and its tokens are FREE; one whose lead waits for it as its TXON is
refused with LINK and its tokens hang with a TXOFF queued; a holder whose last queued GRANT it was has its grant-out flag
cleared (R29, R30, R58, R68, R116, R161). -/
def Obligations.ReadBackMismatchFailsAttempt : Prop :=
  ∀ (s : State) (f : QueuedFrame) (rest : List QueuedFrame) (index : Nat) (framing : Bool) (b sent : Byte),
    s.running = true → s.bus.driving = true → s.bus.queue = f :: rest →
    (wireChars (drivenFrame s f))[index]? = some sent → ¬ (framing = decide (index = 0) ∧ b = sent) →
    (f.attempts < 8 →
      ∃ t, exec (.readBackMismatch index framing b) s = .next t ∧ t.bus.driving = false ∧ t.bus.queue = s.bus.queue ∧
        t.bus.sequence = s.bus.sequence ∧ t.rep.live.linkFailures = s.rep.live.linkFailures ∧
        ChangesOnly [.bus, .rep] s t) ∧
    (8 ≤ f.attempts → s.mode = .active → settled s →
      (f.owned = false →
        ∃ t, exec (.readBackMismatch index framing b) s = .next t ∧ t.bus.driving = false ∧ t.bus.queue = rest ∧
          t.bus.sequence = s.bus.sequence ∧ t.rep.live.linkFailures = saturate s.rep.live.linkFailures 1 ∧
          t.tracker = { s.tracker with isolated := true, sentSince := false } ∧ t.rep.levels.getLsbD 0 = true ∧
          ChangesOnly [.bus, .rep, .tracker, .key] s t) ∧
      (f.owned = true → f.content.kind = .bid → s.tok.state = .bidding → s.tok.awaitedBid = true →
        s.key.state = .keyWait → nothingPending s →
        ∃ t, exec (.readBackMismatch index framing b) s = .next t ∧ t.tracker.isolated = true ∧ t.tok.state = .free ∧
          t.key.state = .lockout ∧ t.key.reason = some .link ∧
          t.rep.live.keyRefusals = saturate s.rep.live.keyRefusals 1 ∧
          ChangesOnly [.bus, .rep, .tracker, .tok, .drv, .key] s t) ∧
      (∀ band a, f.owned = true → f.content.kind = .txon → s.tok.state = .keyed → s.tok.band = some band →
        s.tok.antenna = some a → s.key.state = .keyWait → s.key.lead = .awaitsTxon → nothingPending s →
        rest.length < 12 →
        ∃ t, exec (.readBackMismatch index framing b) s = .next t ∧ t.tracker.isolated = true ∧
          t.tok.state = .hanging ∧ t.tok.hangEnd = some (after s.now s.cfg.hang) ∧ queuedTo t (.txoff band a) 255 ∧
          t.key.state = .lockout ∧ t.key.reason = some .link ∧
          t.rep.live.keyRefusals = saturate s.rep.live.keyRefusals 1 ∧
          ChangesOnly [.bus, .rep, .tracker, .tok, .drv, .key] s t) ∧
      (∀ port use settle (n : Node) h, f.owned = true → f.content = .grant port use settle → f.destination = byte n.val →
        (s.port port).holders = [h] → h.node = n → rest.all (fun g => g.content.kind != .grant) = true →
        ∃ t, exec (.readBackMismatch index framing b) s = .next t ∧ t.bus.queue = rest ∧ t.tracker.isolated = true ∧
          (t.port port).holders = [{ h with grantOut := false }] ∧
          (∀ q, q ≠ port → t.port q = s.port q) ∧ ChangesOnly [.bus, .rep, .tracker, .arb, .key] s t)) ∧
    (8 ≤ f.attempts → s.mode = .listenIn → settled s → f.owned = false →
      ∃ t, exec (.readBackMismatch index framing b) s = .next t ∧ t.bus.driving = false ∧ t.bus.queue = rest ∧
        t.bus.sequence = s.bus.sequence ∧ t.rep.live.linkFailures = saturate s.rep.live.linkFailures 1 ∧
        keyingKept s t ∧ ChangesOnly [.bus, .rep, .key] s t)

/-- Tier 2. A sent frame is removed, counted and reported: the sent-since-isolation flag of an isolated node is set; the
awaited BID's completion sets the window end at now + 2A and, in KEY_WAIT, the lead end at now + L; a TXON's starts a lead
that waits for it; a GRANT's clears its entry's grant-out flag unless another is queued (R31, R59, R68, R116, R158). -/
def Obligations.FrameSentRemovesAndReports : Prop :=
  ∀ (s : State) (f : QueuedFrame) (rest : List QueuedFrame), s.running = true → s.bus.driving = true →
    s.bus.queue = f :: rest →
    ∃ t, exec .frameSent s = .next t ∧ t.bus.queue = rest ∧ t.bus.driving = false ∧ t.bus.free = false ∧
      t.bus.openFrame = none ∧ t.bus.sequence = s.bus.sequence ∧
      t.rep.live = { s.rep.live with framesSent := saturate s.rep.live.framesSent 1 } ∧
      t.tracker = { s.tracker with sentSince := s.tracker.sentSince || s.tracker.isolated } ∧
      (f.owned = false → ChangesOnly [.bus, .rep, .tracker] s t) ∧
      (f.owned = true → f.content.kind = .bid → s.tok.state = .bidding → s.tok.awaitedBid = true →
        t.tok = { s.tok with awaitedBid := false, windowEnd := some (after s.now (2 * s.allowance)) } ∧
        (s.key.state = .keyWait → s.key.lead = .awaitsBid →
          t.key = { s.key with lead := .ends (after s.now s.key.leadLength) }) ∧
        ChangesOnly [.bus, .rep, .tracker, .tok, .key] s t) ∧
      (f.owned = true → f.content.kind = .txon →
        (s.key.state = .keyWait → s.key.lead = .awaitsTxon →
          t.key = { s.key with lead := .ends (after s.now s.key.leadLength) }) ∧
        ChangesOnly [.bus, .rep, .tracker, .key] s t) ∧
      (∀ port use settle (n : Node) h, f.owned = true → f.content = .grant port use settle → f.destination = byte n.val →
        (s.port port).holders = [h] → h.node = n → rest.all (fun g => g.content.kind != .grant) = true →
        (t.port port).holders = [{ h with grantOut := false }])

/-- Tier 2. A frame finds its place in an ordered queue that has room: a normal frame behind all, an urgent one behind every
urgent frame and the frame in flight, before the waiting normal ones. A ROLL takes the place of the one that waits, with no
counter and no notice. Any other frame that finds 12 frames has the waiting ROLL discarded, else one waiting CATALOGUE, and
finds its place among the others, which keep their order, else is itself discarded; each time QUEUE_OVERRUNS and OVERRUN (R32,
R33, R34). -/
def Obligations.QueuePlacesAndMakesRoom : Prop :=
  ∀ (s t : State) (c : Content) (d : Byte) (o queued : Bool), queueOrdered s.bus → enqueue s c d o = (t, queued) →
    (c.kind = .roll → s.bus.queue.any (waitingKind .roll) = true →
      queued = true ∧ t.rep = s.rep ∧
        ∃ pre old post, s.bus.queue = pre ++ old :: post ∧ waitingKind .roll old = true ∧
          t.bus = { s.bus with queue := pre ++ ⟨c, d, 0, none, o⟩ :: post }) ∧
    ((c.kind = .roll → s.bus.queue.any (waitingKind .roll) = false) →
      (s.bus.queue.length < 12 →
        queued = true ∧ t.rep = s.rep ∧
          t.bus = { s.bus with queue := t.bus.queue } ∧ placedIn ⟨c, d, 0, none, o⟩ s.bus.queue t.bus.queue) ∧
      (s.bus.queue.length = 12 →
        t.rep = { s.rep with live := t.rep.live, flags := s.rep.flags ||| Notice.overrun.bit } ∧
          t.rep.live = { s.rep.live with queueOverruns := saturate s.rep.live.queueOverruns 1 } ∧ flagged t .overrun ∧
          (s.bus.queue.any (waitingKind .roll) = true →
            queued = true ∧ t.bus = { s.bus with queue := t.bus.queue } ∧
            ∃ rest, lessOne (fun g => waitingKind .roll g = true) s.bus.queue rest ∧
              placedIn ⟨c, d, 0, none, o⟩ rest t.bus.queue) ∧
          (s.bus.queue.any (waitingKind .roll) = false → s.bus.queue.any (waitingKind .catalogue) = true →
            queued = true ∧ t.bus = { s.bus with queue := t.bus.queue } ∧
            ∃ rest, lessOne (fun g => waitingKind .catalogue g = true) s.bus.queue rest ∧
              placedIn ⟨c, d, 0, none, o⟩ rest t.bus.queue) ∧
          (s.bus.queue.any (waitingKind .roll) = false → s.bus.queue.any (waitingKind .catalogue) = false →
            queued = false ∧ t.bus = s.bus))) ∧
    ChangesOnly [.bus, .rep] s t

/-- Tier 1. The link allowance of every N and rate, as the table of R37 lists it, and the check value of the CRC (R20). -/
def Obligations.LinkAllowanceAndCrcValues : Prop :=
  (List.range' 2 7).map (fun n => (linkAllowance n .r250000, linkAllowance n .r125000, linkAllowance n .r62500)) =
      [(5, 9, 17), (5, 10, 19), (6, 11, 21), (6, 11, 22), (6, 12, 24), (7, 13, 26), (7, 14, 28)] ∧
    crc [0x31, 0x32, 0x33, 0x34, 0x35, 0x36, 0x37, 0x38, 0x39] = 0x29B1#16

/-- Tier 2. Every content within the ranges of R22 is read back whole from the body it is sent as, the body has a length the
kind allows, and the frame is read back from its characters with its source, epoch and a matching CRC (R20, R21, R22). -/
def Obligations.FramesRoundTrip : Prop :=
  ∀ (c : Content) (epoch : BitVec 4) (node : Node) (sequence destination : Byte), c.inRange →
    contentOf c.kind c.body = some c ∧ lengthFits c.kind c.body = true ∧ FrameKind.ofCode c.kind.code = some c.kind ∧
      c.body.length ≤ 67 ∧
      frameOfChars (wireChars (frameOf epoch node sequence destination c)) =
        some (frameOf epoch node sequence destination c) ∧
      crcMatches (frameOf epoch node sequence destination c) = true ∧
      sourceNode (frameOf epoch node sequence destination c) = node.val ∧
      sourceEpoch (frameOf epoch node sequence destination c) = epoch

/-- Tier 2. A frame that a peer of the station sends is never rejected: it is addressed elsewhere, or its content is bad by a
claim fault or at a tower alone, or it is taken with the content that was sent. Of any complete frame: it is rejected exactly
when its CRC, its kind, its length, its source or its destination fails the checks of R25; one that is not is addressed
elsewhere when it is for another node alone; and else its content is bad exactly when a field of its body leaves its range,
claims an antenna wrongly, or is for a tower that cannot take it, as the table of R26 lists them (R8, R12, R20–R22, R25–R27).
-/
def Obligations.SentFramesAreAccepted : Prop :=
  (∀ (s : State) (c : Content) (epoch : BitVec 4) (p : Node) (sequence destination : Byte), c.inRange →
    p.val < s.cfg.nodes → s.cfg.nodes ≤ 8 → p ≠ s.node →
    (c.kind.broadcast = true → destination = 255) →
    (c.kind.broadcast = false → destination.toNat < s.cfg.nodes ∧ destination.toNat ≠ p.val) →
    verdict s (frameOf epoch p sequence destination c) =
      if c.kind.broadcast = false ∧ destination.toNat ≠ s.node.val then .elsewhere p c.kind
      else if contentFault s c = true then .bad p c.kind
      else .good p c) ∧
  (∀ (s : State) (f : WireFrame), s.cfg.nodes ≤ 8 →
    (verdict s f = .rejected ↔ mustReject s f) ∧
    (¬ mustReject s f → ∀ (p : Node) (k : FrameKind), f.source.toNat % 16 = p.val → f.kind.toNat = k.code →
      (f.destination ≠ 255 → f.destination.toNat ≠ s.node.val → verdict s f = .elsewhere p k) ∧
      (f.destination = 255 ∨ f.destination.toNat = s.node.val →
        (contentBad s k f.body → verdict s f = .bad p k) ∧
        (¬ contentBad s k f.body → ∃ c, verdict s f = .good p c ∧ c.kind = k ∧ contentOf k f.body = some c))))

/-! ### Frames -/

/-- Tier 2. Every accepted frame is counted and tracked in its sender's record: its epoch, sequence and arrival tick are
taken, an orphan hold ends, and the state follows the epoch and the sequence check; a gap counts the frames lost. Isolation
ends when a frame of the node's own was sent since it began. No other peer's record changes (R25, R41–R47, R59). What a row's
frame finds open in the assembly is rejected before it (log entry 45). -/
def Obligations.EveryAcceptedFrameIsTracked : Prop :=
  ∀ (s : State) (f : WireFrame) (p : Node) (k : FrameKind) (isRoll isHello : Bool), s.listens = true →
    (verdict s f = .elsewhere p k ∨ verdict s f = .bad p k ∨ ∃ c, verdict s f = .good p c ∧ c.kind = k) →
    (isRoll = true ↔ ∃ r, verdict s f = .good p (.roll r)) →
    (isHello = true ↔ ∃ d ds, verdict s f = .good p (.hello d ds)) →
    ∃ t, exec (rowOf s f) s = .next t ∧ (t.peer p).epoch = sourceEpoch f ∧ (t.peer p).sequence = f.sequence ∧
      (t.peer p).lastKind = k ∧ (t.peer p).lastFrame = s.now ∧ (t.peer p).orphanEnd = none ∧
      (∀ q, q ≠ p → t.peer q = s.peer q) ∧ t.tracker.lastPeerFrame = s.now ∧
      t.tracker.isolated = (s.tracker.isolated && !s.tracker.sentSince) ∧
      t.rep.live.framesReceived = saturate s.rep.live.framesReceived 1 ∧
      (s.bus.complete = none →
        (leftBefore s f → t.rep.live.framesRejected = saturate s.rep.live.framesRejected 1) ∧
        (¬ leftBefore s f → t.rep.live.framesRejected = s.rep.live.framesRejected)) ∧
      t.bus.openFrame = none ∧ t.bus.complete = none ∧ t.bus.afterComplete = true ∧ t.bus.free = false ∧
      (isHello = true → (t.peer p).state = .stale) ∧
      (isHello = false →
        ((s.peer p).state = .absent ∨ (s.peer p).state = .gone ∨ (s.peer p).state = .silent ∨ ¬ sameEpoch s f p →
          (t.peer p).state = if isRoll then .current else .stale) ∧
        (inSequence s f p → (t.peer p).state = if isRoll then .current else (s.peer p).state) ∧
        (sequenced s f p → f.sequence = (s.peer p).sequence → (t.peer p).state = (s.peer p).state) ∧
        (showsGap s f p →
          (t.peer p).state = .stale ∧
          t.rep.live.framesLost = saturate s.rep.live.framesLost (f.sequence - (s.peer p).sequence - 1).toNat))

/-- Tier 2. A rejected frame is counted and nothing else (with what it found open in the assembly: log entry 45). No frame is
taken before START or while the node drives its own (R19; that its row changes nothing is log entry 1). A frame addressed
elsewhere, or with bad content, with no epoch jump leaves every claim of its sender as it was; a gap and bad content are
recorded against it, the first fault in full and the next in the collapse count (R25, R26, R41, R43, R178). -/
def Obligations.UncheckedFramesLeaveClaims : Prop :=
  (∀ (s : State) (f : WireFrame), s.listens = true → verdict s f = .rejected → s.bus.complete = none →
    ∃ t, exec (.frameRejected f) s = .next t ∧ t.bus.queue = s.bus.queue ∧ t.rep.flags = s.rep.flags ∧
      t.rep.faults = s.rep.faults ∧
      (¬ leftBefore s f →
        t.rep.live = { s.rep.live with framesRejected := saturate s.rep.live.framesRejected 1 }) ∧
      (leftBefore s f →
        t.rep.live = { s.rep.live with framesRejected := saturate s.rep.live.framesRejected 2 }) ∧
      ChangesOnly [.bus, .rep] s t) ∧
  (∀ (s : State) (f : WireFrame), s.listens = false → exec (rowOf s f) s = .next s) ∧
  (∀ (s : State) (f : WireFrame) (p : Node) (k : FrameKind), s.listens = true → sameEpoch s f p → settled s →
    (verdict s f = .elsewhere p k →
      ∃ t, exec (.frameAddressedElsewhere f) s = .next t ∧
        t.peer p = { s.peer p with
          state := (t.peer p).state, epoch := sourceEpoch f, sequence := f.sequence, lastKind := k, lastFrame := s.now,
          orphanEnd := none } ∧
        (inSequence s f p → t.rep.faults = s.rep.faults ∧ t.rep.live.framesLost = s.rep.live.framesLost) ∧
        (showsGap s f p → s.rep.faults[p] = none →
          t.rep.faults[p] = some ⟨.sequenceGap, k, f.sequence, s.now, 0⟩ ∧ flagged t .fault) ∧
        t.bus.queue = s.bus.queue ∧ ChangesOnly [.bus, .rep, .tracker, .key] s t) ∧
    (verdict s f = .bad p k →
      ∃ t, exec (.frameContentBad f) s = .next t ∧
        t.peer p = { s.peer p with
          state := (t.peer p).state, epoch := sourceEpoch f, sequence := f.sequence, lastKind := k, lastFrame := s.now,
          orphanEnd := none } ∧
        (inSequence s f p → s.rep.faults[p] = none →
          t.rep.faults[p] = some ⟨.badContent, k, f.sequence, s.now, 0⟩ ∧ flagged t .fault) ∧
        (∀ r, inSequence s f p → s.rep.faults[p] = some r →
          t.rep.faults[p] = some { r with collapsed := min (r.collapsed + 1) 255 }) ∧
        t.bus.queue = s.bus.queue ∧ ChangesOnly [.bus, .rep, .tracker, .key] s t))

/-- Tier 2. A HELLO, and an epoch jump, restart a peer: its claims are purged, its bid record is dropped, its holder and wait
entries go with no FREE, the selections homed at it move to REASK, and a keydown on its antenna, in KEY_WAIT, STEP_UP or
TRANSMIT, is aborted with REVOKED, KEYED tokens going to HANGING. The jump is stated for a frame addressed elsewhere, one with
bad content and a FREE. A HELLO also replaces the learned catalogue, judges the digest and calls for a CATALOGUE of the node's
own; a jump is a fault (behind BAD_CONTENT: log entry 34) and keeps the catalogue. A CATALOGUE replaces the learned catalogue
alone (R6, R8, R44, R46, R53, R86, R109, R111, R122, R128, R165). -/
def Obligations.RestartedPeerIsReleased : Prop :=
  (∀ (s : State) (f : WireFrame) (p : Node) (digest : BitVec 16) (ds : List Descriptor),
    arrives s f p (.hello digest ds) →
    ∃ t, exec (.frameReceivedHello f) s = .next t ∧ peerReleased s t p ∧ awayKeydownEnds s t p ∧
      t.learned[p] = ⟨true, ds⟩ ∧
      (∀ q : Node, q ≠ p → t.learned[q] = s.learned[q]) ∧
      (t.peer p).mismatch = (if s.digest = some digest then false else true) ∧
      (noneDeferred s → s.key.state.keyed = false → (∀ port, (s.port port).waits = []) → s.bus.queue.length < 12 →
        s.bus.queue.all (fun g => g.content.kind != .hello && g.content.kind != .catalogue) = true →
        queuedTo t (.catalogue (s.digest.getD 0) (ownDescriptors s)) 255)) ∧
  (∀ (s : State) (f : WireFrame) (p : Node) (k : FrameKind), s.listens = true →
    (verdict s f = .elsewhere p k ∨ verdict s f = .bad p k ∨
      ∃ port use cause, verdict s f = .good p (.free port use cause) ∧ k = .free) →
    ¬ sameEpoch s f p →
    ∃ t, exec (rowOf s f) s = .next t ∧ peerReleased s t p ∧ awayKeydownEnds s t p ∧ t.learned = s.learned ∧
      (t.peer p).mismatch = (s.peer p).mismatch ∧
      (s.rep.faults[p] = none → t.rep.faults[p] =
        some (if verdict s f = .bad p k then ⟨.badContent, k, f.sequence, s.now, 1⟩
          else ⟨.epochJump, k, f.sequence, s.now, 0⟩))) ∧
  (∀ (s : State) (f : WireFrame) (p : Node) (digest : BitVec 16) (ds : List Descriptor),
    arrives s f p (.catalogue digest ds) → sameEpoch s f p → settled s →
    ∃ t, exec (.frameReceivedCatalogue f) s = .next t ∧ t.learned[p] = ⟨true, ds⟩ ∧
      (∀ q : Node, q ≠ p → t.learned[q] = s.learned[q]) ∧ t.bus.queue = s.bus.queue ∧
      ChangesOnly [.bus, .rep, .tracker, .learned, .key] s t)

/-- Tier 2. A ROLL fills its sender's record. In sequence and with no announcement since the last ROLL it is trusted and
restates the keyed knowledge and the token standing; else it only adds claims. It sets or clears the mismatch mark and the
announcement flag. Where its want mask has the node's own bit, a CATALOGUE of the node's own is queued, unless one or the HELLO
is queued still; without the bit it queues none. The own want mask has the bit of each other node below N whose catalogue is
unknown, from START on, and no other bit (R6, R10, R11, R47, R48, R53). -/
def Obligations.RollFillsRecord : Prop :=
  (∀ (s : State) (n : Node), (wantMask s).getLsbD n.val = true ↔
    s.mode ≠ .setup ∧ n.val < s.cfg.nodes ∧ n ≠ s.node ∧ s.learned[n].known = false) ∧
  ∀ (s : State) (f : WireFrame) (p : Node) (r : Roll), arrives s f p (.roll r) →
    ∃ t, exec (.frameReceivedRoll f) s = .next t ∧ (t.peer p).announced = false ∧
      (t.peer p).mismatch = (if s.digest = some r.digest then false else true) ∧
      (r.keyed = true → (t.peer p).keyed = some ⟨r.band, r.tx⟩) ∧
      (r.bandToken ≠ .free → (t.peer p).bandToken = r.bandToken ∧ (t.peer p).signalToken = r.signalToken ∧
        (t.peer p).tokenBand = r.band) ∧
      (inSequence s f p → (s.peer p).announced = false →
        (t.peer p).roll = some r ∧ (r.keyed = false → (t.peer p).keyed = none) ∧
        (t.peer p).bandToken = r.bandToken ∧ (t.peer p).signalToken = r.signalToken ∧
        (r.bandToken = .free → r.signalToken = .free → (t.peer p).tokenBand = 0)) ∧
      (sameEpoch s f p → ¬ (inSequence s f p ∧ (s.peer p).announced = false) →
        (∃ l, (t.peer p).roll = some l ∧ l = { r with
          keyed := l.keyed, bandToken := l.bandToken, signalToken := l.signalToken }) ∧
        (r.keyed = false → (t.peer p).keyed = (s.peer p).keyed) ∧
        (r.bandToken = .free → (t.peer p).bandToken = (s.peer p).bandToken ∧
          (t.peer p).signalToken = (s.peer p).signalToken ∧ (t.peer p).tokenBand = (s.peer p).tokenBand)) ∧
      (sameEpoch s f p → noneDeferred s → s.key.state.keyed = false → (∀ port, holderOf s p port = none) →
        (∀ port, (s.port port).waits = []) → s.bus.queue.length < 7 →
        (r.want.getLsbD s.node.val = true →
          s.bus.queue.all (fun g => g.content.kind != .hello && g.content.kind != .catalogue) = true →
          queuedTo t (.catalogue (s.digest.getD 0) (ownDescriptors s)) 255) ∧
        (r.want.getLsbD s.node.val = false ∨
            s.bus.queue.any (fun g => g.content.kind == .hello || g.content.kind == .catalogue) = true →
          t.bus.queue.filter (QueuedFrame.isKind · .catalogue) =
            s.bus.queue.filter (QueuedFrame.isKind · .catalogue))) ∧
      ChangesOnly peerBlocks s t

/-- Tier 2. An ACTIVE home reconciles a peer's one grant with its ROLL, where the peer is not known keyed, on a port that other
nodes may share: a listed antenna confirms it; one not listed is released with FREE(reconcile) and an ORPHAN_GRANT fault
(stated with FREE tokens, where no COLLISION comes first) when it was confirmed or missed before, is left while its GRANT is
out, and is else counted as missed. A claim it did not grant is answered with FREE(not-yours). A port so released with one
waiter is granted to it, and the FREEs of the ROLL stand before that GRANT (R78, R82, R83, R84, R91; the order among the FREEs
is log entry 19). -/
def Obligations.RollReconcilesGrants : Prop :=
  ∀ (s : State) (f : WireFrame) (p : Node) (r : Roll), arrives s f p (.roll r) → inSequence s f p → s.mode = .active →
    s.host.restartHeld = false → noneDeferred s → s.key.state.keyed = false → s.digest = some r.digest →
    (r.active = true → ¬ asksAgainAt s.sel.tx p ∧ ¬ asksAgainAt s.sel.rx p) →
    r.keyed = false → (s.peer p).keyed = none → s.bus.queue.length < 10 →
    (∀ port h use, holderOf s p port = some h → h.uses = Uses.of use →
      (∀ q, q ≠ port → holderOf s p q = none) →
      (r.lists (antennaAt s.node port) = true →
        ∃ t, exec (.frameReceivedRoll f) s = .next t ∧
          (t.port port).holders = changedAt Holder.node p (fun x => { x with confirmed := true, missed := 0 })
            (s.port port).holders ∧ ChangesOnly peerBlocks s t) ∧
      (r.lists (antennaAt s.node port) = false → h.confirmed = true ∨ (h.grantOut = false ∧ 1 ≤ h.missed) →
        (∀ q, (s.port q).waits = []) →
        ∃ t, exec (.frameReceivedRoll f) s = .next t ∧
          (t.port port).holders = (s.port port).holders.filter (fun x => x.node != p) ∧
          queuedTo t (.free port use .reconcile) (byte p.val) ∧
          (s.tok.state = .free → s.rep.faults[p] = none →
            t.rep.faults[p] = some ⟨.orphanGrant, .roll, f.sequence, s.now, 0⟩) ∧
          ChangesOnly peerBlocks s t) ∧
      (∀ w d use', r.lists (antennaAt s.node port) = false → h.confirmed = true → (s.port port).holders = [h] →
        (s.port port).waits = [w] → w.node ≠ s.node → w.uses = Uses.of use' →
        (∀ q, q ≠ port → (s.port q).waits = [] ∧ (feedlineOf s port ≠ 0 → feedlineOf s q = feedlineOf s port →
          (s.port q).holders = [])) →
        ownDescriptor s port = some d → (s.port port).disabled = false → 1 ≤ d.share →
        (use' = .tx → d.kind = .tx) → s.bus.queue.length < 7 →
        ∃ t settle, exec (.frameReceivedRoll f) s = .next t ∧
          (t.port port).holders = [⟨w.node, w.uses, false, true, 0⟩] ∧ (t.port port).waits = [] ∧
          queuedBefore t (.free port use .reconcile) (byte p.val) (.grant port use' settle) (byte w.node.val) ∧
          (∀ q, r.tx = some (antennaAt s.node q) → q ≠ port →
            queuedBefore t (.free q .tx .notYours) (byte p.val) (.grant port use' settle) (byte w.node.val)) ∧
          ChangesOnly peerBlocks s t) ∧
      (r.lists (antennaAt s.node port) = false → h.confirmed = false → h.grantOut = true →
        ∃ t, exec (.frameReceivedRoll f) s = .next t ∧ (t.port port).holders = (s.port port).holders ∧
          ChangesOnly peerBlocks s t) ∧
      (r.lists (antennaAt s.node port) = false → h.confirmed = false → h.grantOut = false → h.missed = 0 →
        ∃ t, exec (.frameReceivedRoll f) s = .next t ∧
          (t.port port).holders = changedAt Holder.node p (fun x => { x with missed := x.missed + 1 })
            (s.port port).holders ∧ ChangesOnly peerBlocks s t)) ∧
    (∀ port, (∀ q, holderOf s p q = none) → r.tx = some (antennaAt s.node port) →
      ∃ t, exec (.frameReceivedRoll f) s = .next t ∧ queuedTo t (.free port .tx .notYours) (byte p.val) ∧
        ChangesOnly peerBlocks s t)

/-- Tier 2. An ASK is judged by the first of the nine tests of R71 that applies: refused with its reason and no record changed,
granted again with settle 0 to a holder, beside others or alone, told its place again, granted with a holder entry, the drive
word merged anew with its settle and guard and the settle of R145, or given a wait entry behind its class (R69, R71–R75,
R141–R143, R145). -/
def Obligations.AskIsAnswered : Prop :=
  ∀ (s : State) (f : WireFrame) (p : Node) (port : Port) (use : Use) (b : Band) (cls : Machine.Class),
    arrives s f p (.ask port use b cls) → sameEpoch s f p → settled s → s.bus.queue.length < 12 →
    (∀ reason,
      (if s.mode = .listenIn ∨ s.host.restartHeld = true then reason = .starting
        else match ownDescriptor s port with
          | none => reason = .noPort
          | some d =>
            if (s.port port).disabled = true then reason = .disabled
            else if d.serves b = false then reason = .wrongBand
            else use = .tx ∧ d.kind = .rx ∧ reason = .wrongUse) →
      ∃ t, exec (.frameReceivedAsk f) s = .next t ∧ queuedTo t (.refuse port reason) (byte p.val) ∧
        ChangesOnly [.bus, .rep, .tracker, .key] s t) ∧
    (∀ d, s.mode = .active → s.host.restartHeld = false → ownDescriptor s port = some d →
      (s.port port).disabled = false → d.serves b = true → (use = .listen ∨ d.kind = .tx) →
      (holderOf s p port ≠ none →
        ∃ t, exec (.frameReceivedAsk f) s = .next t ∧ queuedTo t (.grant port use 0) (byte p.val) ∧
          (t.port port).holders =
            changedAt Holder.node p (fun x => { x with uses := x.uses.add use, grantOut := true }) (s.port port).holders ∧
          (t.port port).releasePending = (s.port port).releasePending.remove use ∧
          (∀ q, q ≠ port → t.port q = s.port q) ∧ ChangesOnly [.bus, .rep, .tracker, .arb, .key] s t) ∧
      (holderOf s p port = none → ∀ w, waiterOf s p port = some w →
        ∃ t, exec (.frameReceivedAsk f) s = .next t ∧
          queuedTo t (.wait port ((s.port port).waits.findIdx (fun x => x.node == p) + 1)) (byte p.val) ∧
          (t.port port).holders = (s.port port).holders ∧
          (t.port port).waits = (s.port port).waits.map
            (fun x => if x.node = p then { x with uses := x.uses.add use } else x) ∧
          t.arb.arrivals = s.arb.arrivals ∧ ChangesOnly [.bus, .rep, .tracker, .arb, .key] s t) ∧
      (holderOf s p port = none → waiterOf s p port = none →
        (grantable s port (Uses.of use) = true →
          ∃ t settle, exec (.frameReceivedAsk f) s = .next t ∧ queuedTo t (.grant port use settle) (byte p.val) ∧
            settle = (if t.drv.word = s.drv.word then 0
              else max (remaining t.drv.localEnd s.now) (remaining t.drv.heldEnd s.now)) ∧
            (t.port port).holders = (s.port port).holders ++ [⟨p, Uses.of use, false, true, 0⟩] ∧
            (∀ q, q ≠ port → t.port q = s.port q) ∧ t.drv.word = mergedWord t ∧ driveMoved s t ∧
            ChangesOnly [.bus, .rep, .tracker, .arb, .drv, .key] s t) ∧
        (grantable s port (Uses.of use) = false →
          ∃ t pre post, exec (.frameReceivedAsk f) s = .next t ∧ (s.port port).waits = pre ++ post ∧
            (t.port port).waits = pre ++ ⟨p, Uses.of use, cls, s.arb.arrivals⟩ :: post ∧
            (∀ w ∈ pre, w.cls.number ≤ cls.number) ∧ (∀ w, post.head? = some w → cls.number < w.cls.number) ∧
            queuedTo t (.wait port (pre.length + 1)) (byte p.val) ∧ (t.port port).holders = (s.port port).holders ∧
            t.arb.arrivals = s.arb.arrivals + 1 ∧ ChangesOnly [.bus, .rep, .tracker, .arb, .key] s t)))

/-- Tier 2. A GRANT moves the record of its use that names the antenna to GRANTED, with the remote guard end the settle after
the arrival; one that no record takes is answered with a FREE. A WAIT and a REFUSE move each record that names the antenna and
asks or waits. A GRANT that moves the remote guard end of the TX record beyond now in STEP_UP or TRANSMIT aborts the keydown
with REVOKED, KEYED tokens going to HANGING; in KEY_WAIT it aborts nothing (R102–R105, R109, R111, R128, R162, R165). -/
def Obligations.HomeAnswersMoveSelection : Prop :=
  ∀ (s : State) (f : WireFrame) (p : Node) (port : Port), sameEpoch s f p → settled s →
    (∀ use settle, arrives s f p (.grant port use settle) →
      ((s.selection (recordFor use)).names (antennaAt p port) = true →
          s.key.state.keyed = false ∨ s.key.state = .keyWait ∨ use = .listen →
        ((s.selection (recordFor use)).state = .asking ∨ (s.selection (recordFor use)).state = .waiting ∨
          (s.selection (recordFor use)).state = .reask →
          ∃ t, exec (.frameReceivedGrant f) s = .next t ∧
            t.selection (recordFor use) = { s.selection (recordFor use) with
              state := .granted, place := none, deadline := none, guardEnd := some (after s.now settle) } ∧
            keyingKept s t ∧ t.bus.queue = s.bus.queue ∧ ChangesOnly [.bus, .rep, .tracker, .sel, .key] s t) ∧
        (∀ g, (s.selection (recordFor use)).state = .granted → (s.selection (recordFor use)).guardEnd = some g →
          ∃ t, exec (.frameReceivedGrant f) s = .next t ∧
            t.selection (recordFor use) = { s.selection (recordFor use) with
              guardEnd := some (laterOf g (after s.now settle)) } ∧
            keyingKept s t ∧ t.bus.queue = s.bus.queue ∧ ChangesOnly [.bus, .rep, .tracker, .sel, .key] s t)) ∧
      ((s.selection (recordFor use)).names (antennaAt p port) = false ∨
          (s.selection (recordFor use)).state = .empty ∨ (s.selection (recordFor use)).state = .failed →
        s.bus.queue.length < 12 →
        ∃ t, exec (.frameReceivedGrant f) s = .next t ∧ queuedTo t (.free port use .release) (byte p.val) ∧
          ChangesOnly [.bus, .rep, .tracker, .key] s t) ∧
      (use = .tx → s.sel.tx.names (antennaAt p port) = true → s.sel.tx.state = .granted →
        s.key.state = .stepUp ∨ s.key.state = .transmit → reached (after s.now settle) s.now = false →
        (∀ g, s.sel.tx.guardEnd = some g → later (after s.now settle) g = true) →
        ∃ t, exec (.frameReceivedGrant f) s = .next t ∧ keydownRevoked s t ∧
          (keptAside s .tx → t.sel.tx = { s.sel.tx with guardEnd := some (after s.now settle) }) ∧
          (tailRuns s → ChangesOnly [.bus, .rep, .tracker, .sel, .tok, .key] s t) ∧
          ChangesOnly (.tracker :: keyBlocks) s t)) ∧
    (∀ place name, arrives s f p (.wait port place) →
      ∃ t, exec (.frameReceivedWait f) s = .next t ∧
        t.selection name = (if (s.selection name).names (antennaAt p port) = true ∧
            ((s.selection name).state = .asking ∨ (s.selection name).state = .waiting ∨
              (s.selection name).state = .reask)
          then { s.selection name with state := .waiting, place := some place, deadline := none }
          else s.selection name) ∧
        t.bus.queue = s.bus.queue ∧ ChangesOnly [.bus, .rep, .tracker, .sel, .key] s t) ∧
    (∀ reason name, arrives s f p (.refuse port reason) →
      ∃ t, exec (.frameReceivedRefuse f) s = .next t ∧
        t.selection name = (if (s.selection name).names (antennaAt p port) = true ∧
            ((s.selection name).state = .asking ∨ (s.selection name).state = .waiting ∨
              ((s.selection name).state = .reask ∧ reason ≠ .starting))
          then (s.selection name).fail (.refusedByHome reason)
          else s.selection name) ∧
        t.bus.queue = s.bus.queue ∧ ChangesOnly [.bus, .rep, .tracker, .sel, .key] s t)

/-- Tier 2. A FREE(release) takes its use from the holder or wait entry of its sender, or is deferred while the sender is known
keyed on the port, or has no effect. A port so freed is re-offered: the best waiter of its feedline group, by class and then by
age, becomes a holder with its uses and a GRANT for each. A FREE from a home fails the GRANTED record, which ends a keydown on
it with REVOKED, from the point reached; after a lost GRANT, cause reconcile asks again (R76, R77, R78, R106, R111, R141–R143).
-/
def Obligations.FreesAreTaken : Prop :=
  ∀ (s : State) (f : WireFrame) (p : Node) (port : Port) (use : Use), sameEpoch s f p → settled s →
    (arrives s f p (.free port use .release) → (s.peer p).counts = true →
      (∀ h, holderOf s p port = some h → h.uses = Uses.of use → knownKeyed s p port = false →
        (∀ q, (s.port q).waits = []) →
        ∃ t, exec (.frameReceivedFreeRelease f) s = .next t ∧
          (t.port port).holders = (s.port port).holders.filter (fun x => x.node != p) ∧
          (∀ q, q ≠ port → t.port q = s.port q) ∧ t.drv.word = mergedWord t ∧ driveMoved s t ∧
          ChangesOnly [.bus, .rep, .tracker, .arb, .drv, .key] s t) ∧
      (∀ h q w d, holderOf s p port = some h → h.uses = Uses.of use → knownKeyed s p port = false →
        (q ≠ port → (s.port port).holders = [h]) → (∀ d', ownDescriptor s port = some d' →
          (s.port port).holders.length ≤ d'.share) →
        considered s port q w → (∀ q' w', considered s port q' w' → w'.node ≠ s.node) →
        (∀ q' w', considered s port q' w' → (q', w') ≠ (q, w) → waitsLonger s w w') →
        (∀ q', q' ≠ port → feedlineOf s port ≠ 0 → feedlineOf s q' = feedlineOf s port → (s.port q').holders = []) →
        ownDescriptor s q = some d → (s.port q).disabled = false → 1 ≤ d.share → (w.uses.tx = true → d.kind = .tx) →
        ∃ t, exec (.frameReceivedFreeRelease f) s = .next t ∧
          (∃ g, ⟨w.node, w.uses, false, g, 0⟩ ∈ (t.port q).holders) ∧ waiterOf t w.node q = none ∧
          (s.bus.queue.length + 2 * waitCount s (offeredPorts s port) ≤ 12 → ∀ use', w.uses.has use' = true →
            ∃ settle, queuedTo t (.grant q use' settle) (byte w.node.val)) ∧
          (∀ q', q' ≠ port → (feedlineOf s port = 0 ∨ feedlineOf s q' ≠ feedlineOf s port) → t.port q' = s.port q') ∧
          t.arb.arrivals = s.arb.arrivals ∧ t.drv.word = mergedWord t ∧
          ChangesOnly [.bus, .rep, .tracker, .arb, .drv, .key] s t) ∧
      (∀ h, holderOf s p port = some h → h.uses = Uses.mk true true → knownKeyed s p port = false →
        ∃ t, exec (.frameReceivedFreeRelease f) s = .next t ∧
          (t.port port).holders =
            changedAt Holder.node p (fun x => { x with uses := x.uses.remove use }) (s.port port).holders ∧
          (∀ q, q ≠ port → t.port q = s.port q) ∧ ChangesOnly [.bus, .rep, .tracker, .arb, .key] s t) ∧
      (∀ h, holderOf s p port = some h → h.uses.has use = true → knownKeyed s p port = true →
        ∃ t, exec (.frameReceivedFreeRelease f) s = .next t ∧
          t.port port = { s.port port with releasePending := (s.port port).releasePending.add use } ∧
          (∀ q, q ≠ port → t.port q = s.port q) ∧ ChangesOnly [.bus, .rep, .tracker, .arb, .key] s t) ∧
      (∀ w, holderOf s p port = none → waiterOf s p port = some w → w.uses = Uses.of use →
        (∀ x ∈ (s.port port).waits, x.node = p → x = w) →
        ∃ t, exec (.frameReceivedFreeRelease f) s = .next t ∧
          (t.port port).waits = (s.port port).waits.filter (fun x => x.node != p) ∧
          (t.port port).holders = (s.port port).holders ∧ (∀ q, q ≠ port → t.port q = s.port q) ∧
          ChangesOnly [.bus, .rep, .tracker, .arb, .key] s t) ∧
      (holderOf s p port = none → waiterOf s p port = none →
        ∃ t, exec (.frameReceivedFreeRelease f) s = .next t ∧ t.bus.queue = s.bus.queue ∧
          ChangesOnly [.bus, .rep, .tracker, .key] s t)) ∧
    (∀ cause, cause ≠ .release → arrives s f p (.free port use cause) →
      (s.selection (recordFor use)).names (antennaAt p port) = true →
      ((s.selection (recordFor use)).state = .granted → nothingPending s →
        ∃ t, exec (.frameReceivedFreeFromHome f) s = .next t ∧
          t.selection (recordFor use) =
            (s.selection (recordFor use)).fail (if cause = .revoke then .revoked else .lost) ∧
          (s.key.state.keyed = false ∨ use = .listen →
            keyingKept s t ∧ ChangesOnly [.bus, .rep, .tracker, .sel, .key] s t) ∧
          (use = .tx → s.key.state.keyed = true →
            keydownRevoked s t ∧ (tailRuns s → ChangesOnly [.bus, .rep, .tracker, .sel, .tok, .key] s t) ∧
            ChangesOnly [.bus, .rep, .tracker, .sel, .tok, .drv, .key] s t)) ∧
      ((s.selection (recordFor use)).state = .asking ∨ (s.selection (recordFor use)).state = .waiting →
        (cause ≠ .reconcile →
          ∃ t, exec (.frameReceivedFreeFromHome f) s = .next t ∧ t.bus.queue = s.bus.queue ∧
            ChangesOnly [.bus, .rep, .tracker, .key] s t) ∧
        (∀ c, cause = .reconcile → (s.selection (recordFor use)).choice = some c → c ≠ 16 →
          entryOf s s.band.decoded c = some (some (antennaAt p port)) →
          localCheck s (recordFor use) (some (antennaAt p port)) = none → s.bus.queue.length < 12 →
          ∃ t, exec (.frameReceivedFreeFromHome f) s = .next t ∧
            t.selection (recordFor use) = ⟨.asking, some c, some (antennaAt p port), none, none,
              some (after s.now (2 * s.interval)), none, none⟩ ∧
            queuedTo t (.ask port use s.band.decoded s.cfg.cls) (byte p.val) ∧
            ChangesOnly [.bus, .rep, .tracker, .sel, .key] s t)))

/-- Tier 2. A BID makes or replaces its sender's bid record, which expires W + A later. TXON, TXOFF and DROP set the sender's
keyed knowledge and token standing and its announcement flag, and end its bid record. A TXOFF, a DROP and a TXON for another
antenna end the known keyed state on a port, which lets a revocation or a release that waited for it be carried out: the entry
goes with a FREE(revoke) for each use, or the use goes with no frame (R49, R77, R79, R121, R122). -/
def Obligations.BidsAndAnnouncementsTaken : Prop :=
  ∀ (s : State) (f : WireFrame) (p : Node) (b : Band),
    (∀ cls a, arrives s f p (.bid b cls a) → sameEpoch s f p → settled s →
      ∃ t, exec (.frameReceivedBid f) s = .next t ∧
        t.bids[p] = some ⟨b, cls, a, s.now, after s.now (2 * s.allowance + s.allowance)⟩ ∧
        (∀ q : Node, q ≠ p → t.bids[q] = s.bids[q]) ∧ t.bus.queue = s.bus.queue ∧
        ChangesOnly [.bus, .rep, .tracker, .bids, .key] s t) ∧
    (∀ a, arrives s f p (.txon b a) →
      ∃ t, exec (.frameReceivedTxon f) s = .next t ∧ (t.peer p).keyed = some ⟨b, some a⟩ ∧
        (t.peer p).bandToken = .keyed ∧ (t.peer p).signalToken = .keyed ∧ (t.peer p).tokenBand = b ∧
        (t.peer p).announced = true ∧ t.bids[p] = none ∧
        (∀ port, sameEpoch s f p → a ≠ antennaAt s.node port → deferralEnds s t p port) ∧
        ChangesOnly peerBlocks s t) ∧
    (∀ a, arrives s f p (.txoff b a) →
      ∃ t, exec (.frameReceivedTxoff f) s = .next t ∧ (t.peer p).keyed = none ∧ (t.peer p).bandToken = .hanging ∧
        (t.peer p).signalToken = .hanging ∧ (t.peer p).tokenBand = b ∧ (t.peer p).announced = true ∧
        t.bids[p] = none ∧ (∀ port, sameEpoch s f p → deferralEnds s t p port) ∧ ChangesOnly peerBlocks s t) ∧
    (arrives s f p (.drop b) →
      ∃ t, exec (.frameReceivedDrop f) s = .next t ∧ (t.peer p).keyed = none ∧ (t.peer p).bandToken = .free ∧
        (t.peer p).signalToken = .free ∧ (t.peer p).tokenBand = 0 ∧ (t.peer p).announced = true ∧ t.bids[p] = none ∧
        (∀ port, sameEpoch s f p → deferralEnds s t p port) ∧ ChangesOnly peerBlocks s t)

/-- Tier 2. A node that holds tokens and learns from a TXON, a TXOFF or a ROLL of a better-ranked peer that with it the better
holders reach the band limit or the signal limit frees its tokens with a DROP of the token band: COLLISIONS counts, the fault
is recorded against the peer, and a keydown with KEYED tokens is aborted with COLLISION from the point reached, in KEY_WAIT,
STEP_UP or TRANSMIT. From HANGING nothing is aborted. Below both limits it keeps them (R117, R129, R130, R164, R165). -/
def Obligations.YieldFreesTokens : Prop :=
  ∀ (s : State) (f : WireFrame) (p : Node) (b band : Band) (c : Content) (cls : Machine.Class), arrives s f p c →
    inSequence s f p → (s.tok.state = .keyed ∨ s.tok.state = .hanging) → s.tok.band = some b → txLost s = false →
    (((∃ a, c = .txon band a ∨ c = .txoff band a) ∧ cls = classOf s p) ∨
      ∃ r, c = .roll r ∧ r.band = band ∧ r.bandToken ≠ .free ∧ r.signalToken ≠ .free ∧ cls = r.cls ∧
        s.digest = some r.digest ∧ (∀ port, holderOf s p port = none) ∧
        (∀ port, ∀ w ∈ (s.port port).waits, w.node ≠ s.node) ∧ ¬ asksAgainAt s.sel.tx p ∧
        ¬ asksAgainAt s.sel.rx p) →
    ∀ onBand onSignal : Nat,
      onBand = ((peersOf s).filter (fun q => q != p && holdsBand s q b && betterHolder s q)).length →
      onSignal = ((peersOf s).filter (fun q => q != p && holdsSignal s q && betterHolder s q)).length →
    (betterRank cls p s.cfg.cls s.node = true →
      (band = b ∧ s.cfg.bandLimit[b] ≤ onBand + 1) ∨ s.cfg.signalLimit ≤ onSignal + 1 →
      ∃ t, exec (goodRow f c) s = .next t ∧ t.tok.state = .free ∧
        t.rep.live.collisions = saturate s.rep.live.collisions 1 ∧
        (s.rep.faults[p] = none →
          t.rep.faults[p] = some ⟨.collision, c.kind, f.sequence, s.now, 0⟩ ∧ flagged t .fault) ∧
        (noneDeferred s → s.bus.queue.length < 8 → queuedTo t (.drop b) 255) ∧
        (s.tok.state = .keyed → s.key.state.keyed = true → keydownEnds s t .collision) ∧
        (s.tok.state = .hanging → noneDeferred s → keyingKept s t ∧ t.rep.live.keyAborts = s.rep.live.keyAborts) ∧
        ChangesOnly peerBlocks s t) ∧
    (noneDeferred s → onBand + 1 < s.cfg.bandLimit[b] → onSignal + 1 < s.cfg.signalLimit →
      ∃ t, exec (goodRow f c) s = .next t ∧ t.tok = s.tok ∧ t.rep.live.collisions = s.rep.live.collisions ∧
        t.key.state = s.key.state ∧ ChangesOnly peerBlocks s t)

/-! ### Timed events -/

/-- Tier 2. ROLL_DUE fills and queues a ROLL and sets the next beat an interval after the due tick; CHAIN_REFRESH shifts the
drive word again, output 31 first with one latch behind the 32nd level, and sets the next refresh 100 ticks on; HOUR_BOUNDARY
clears the changes of the hour and sets the next boundary an hour on. Before their ticks they change nothing (R23, R38, R133,
R148, R149; the last is log entry 1). -/
def Obligations.BeatsKeepTheirTicks : Prop :=
  ∀ (s : State) (u : Tick), s.inReset = false →
    (s.mode ≠ .setup → s.bus.nextRoll = some u →
      (reached u s.now = true → s.bus.queue.length < 12 ∨ s.bus.queue.any (waitingKind .roll) = true →
        ∃ t r, exec .rollDue s = .next t ∧ t.bus.nextRoll = some (after u s.interval) ∧ queuedTo t (.roll r) 255 ∧
          r.active = (s.mode == .active) ∧ r.role = s.cfg.role ∧ r.cls = s.cfg.cls ∧
          r.keyed = (s.tok.state == .keyed) ∧ r.isolated = s.tracker.isolated ∧
          r.follow = (s.sel.rx.choice == some 16) ∧ r.band = s.band.decoded ∧
          r.tx = (if s.sel.tx.state = .granted then s.sel.tx.antenna else none) ∧
          r.rx = (if s.sel.rx.choice ≠ some 16 ∧ s.sel.rx.state = .granted then s.sel.rx.antenna else none) ∧
          r.bandToken = r.signalToken ∧ (r.bandToken = .keyed ↔ s.tok.state = .keyed) ∧
          (r.bandToken = .hanging ↔ s.tok.state = .hanging) ∧ r.busy = busyMap s ∧ r.want = wantMask s ∧
          r.digest = s.digest.getD 0 ∧ ChangesOnly [.bus, .rep, .key] s t) ∧
      (reached u s.now = false → exec .rollDue s = .next s)) ∧
    (reached s.drv.refreshAt s.now = true →
      ∃ t, exec .chainRefresh s = .next t ∧
        t.drv = { s.drv with shift := some s.drv.word, refreshAt := after s.drv.refreshAt 100 } ∧
        ChangesOnly [.drv] s t) ∧
    (reached s.drv.refreshAt s.now = false → exec .chainRefresh s = .next s) ∧
    (∀ (c : Chain) (word : BitVec 32),
      (∀ k < 32, (chainPulses word)[k]? = some (.clock (word.getLsbD (31 - k)))) ∧
        (chainPulses word)[32]? = some .latch ∧ (chainPulses word).length = 33 ∧
        (∀ k ≤ 32, (c.run ((chainPulses word).take k)).drivers = c.drivers) ∧
        (c.run (chainPulses word)).drivers = word ∧
        (∀ old k, k ≤ 32 → (c.run ((chainPulses old).take k ++ chainPulses word)).drivers = word)) ∧
    (s.gov.nextHour = some u →
      (reached u s.now = true →
        ∃ t, exec .hourBoundary s = .next t ∧
          t.gov = { s.gov with changes := 0, nextHour := some (after u 3600000) } ∧ ChangesOnly [.gov] s t) ∧
      (reached u s.now = false → exec .hourBoundary s = .next s))

/-- Tier 2. A peer unheard for three ROLL intervals becomes SILENT with its fault and its orphan hold, its claims kept; at the
end of the hold it becomes GONE, its claims, bid, grants and waits dropped and the selections homed at it failed, which aborts
a keydown on an antenna of it with REVOKED and leaves every other keydown as it was. ACTIVE begins at the end of listen-in, a
position taking its stack's top or its defaults. ACTIVE with no peer frame for three intervals is isolated (R50, R51, R56, R58,
R85, R101, R110, R111, R122, R128, R165). -/
def Obligations.LivenessTimeouts : Prop :=
  ∀ s : State, s.running = true →
    (∀ p : Node, p ≠ s.node → (s.peer p).state = .current ∨ (s.peer p).state = .stale → settled s →
      reached (after (s.peer p).lastFrame (3 * s.interval)) s.now = true →
      ∃ t, exec (.peerTimeout p) s = .next t ∧
        t.peer p = { s.peer p with
          state := .silent, orphanEnd := some (after s.now (s.cfg.orphanHold * 1000)) } ∧
        (∀ q, q ≠ p → t.peer q = s.peer q) ∧
        (s.rep.faults[p] = none →
          t.rep.faults[p] = some ⟨.silence, (s.peer p).lastKind, (s.peer p).sequence, s.now, 0⟩ ∧ flagged t .fault) ∧
        t.rep.levels.getLsbD 2 = true ∧ ChangesOnly [.tracker, .rep, .key] s t) ∧
    (∀ (p : Node) (u : Tick), p ≠ s.node → (s.peer p).state = .silent → (s.peer p).orphanEnd = some u →
      reached u s.now = true →
      ∃ t, exec (.orphanHoldExpiry p) s = .next t ∧ peerVanished s t p ∧ vanishedKeydown s t p ∧ t.learned = s.learned ∧
        ChangesOnly peerBlocks s t) ∧
    (∀ u : Tick, s.mode = .listenIn → s.tracker.listenInEnd = some u → reached u s.now = true →
      ∃ t, exec .listenInEnd s = .next t ∧ t.mode = .active ∧
        t.tracker = { s.tracker with listenInEnd := none } ∧
        (s.cfg.role = .tower ∨ s.band.decoded = 0 → settled s → ChangesOnly [.mode, .tracker, .rep, .key] s t) ∧
        (∀ tx rx, s.cfg.role = .position → s.band.decoded ≠ 0 → s.key.state.keyed = false → tx < 16 → rx ≤ 16 →
          (tx, rx) = (s.sel.memory[s.band.decoded]).head?.getD
            (s.cfg.defaultTx[s.band.decoded], s.cfg.defaultRx[s.band.decoded]) →
          t.sel.tx.choice = some tx ∧ t.sel.rx.choice = some rx ∧
            t.sel.memory[s.band.decoded] = (s.sel.memory[s.band.decoded]).tail) ∧
        ChangesOnly (.mode :: .tracker :: keyBlocks) s t) ∧
    (s.mode = .active → s.tracker.isolated = false → settled s →
      reached (after s.tracker.lastPeerFrame (3 * s.interval)) s.now = true →
      ∃ t, exec .isolationTimeout s = .next t ∧ t.tracker = { s.tracker with isolated := true, sentSince := false } ∧
        t.rep.levels.getLsbD 0 = true ∧ ChangesOnly [.tracker, .rep, .key] s t)

/-- Tier 2. A record that asks a peer home fails at its reply deadline with NO_REPLY, and the fault is recorded against the
home with the number its ASK was given, or the own sequence where it was given none. At an ACTIVE ROLL of its home a record
that failed so, that was refused with STARTING, or that is in REASK has its choice resolved, checked and asked again; any other
record, and any record at a ROLL that is not ACTIVE, stays. A bid record is removed at its expiry (R107, R108, R109, R122). -/
def Obligations.DeadlinesAndExpiries : Prop :=
  (∀ (s : State) (f : WireFrame) (p : Node) (r : Roll) (name : SelName), arrives s f p (.roll r) → sameEpoch s f p →
    noneDeferred s → s.key.state.keyed = false → (∀ port, holderOf s p port = none) → s.bus.queue.length < 7 →
    (∀ port, ∀ w ∈ (s.port port).waits, w.node ≠ s.node) →
    (r.active = true → asksAgainAt (s.selection name) p → ∀ c entry, (s.selection name).choice = some c → c < 16 →
      entryOf s s.band.decoded c = some entry →
      (∀ why, localCheck s name entry = some why →
        ∃ t, exec (.frameReceivedRoll f) s = .next t ∧ ChangesOnly peerBlocks s t ∧
          t.selection name = ⟨.failed, some c, entry, some (.refusedLocally why), none, none, none, none⟩) ∧
      (∀ a, entry = some a → localCheck s name entry = none → homeOf a ≠ s.node →
        ∃ t, exec (.frameReceivedRoll f) s = .next t ∧ ChangesOnly peerBlocks s t ∧
          t.selection name =
            ⟨.asking, some c, some a, none, none, some (after s.now (2 * s.interval)), none, none⟩ ∧
          queuedTo t (.ask (portOf a) (useOf name) s.band.decoded s.cfg.cls) (byte (homeOf a).val))) ∧
    (r.active = false ∨ (¬ asksAgainAt s.sel.tx p ∧ ¬ asksAgainAt s.sel.rx p) →
      ∃ t, exec (.frameReceivedRoll f) s = .next t ∧ t.sel = s.sel)) ∧
  (∀ (s : State) (u : Tick), s.running = true → reached u s.now = true →
    (∀ name a, (s.selection name).state = .asking → (s.selection name).deadline = some u →
      (s.selection name).antenna = some a → settled s →
      ∃ t, exec (.replyDeadline name) s = .next t ∧ t.selection name = (s.selection name).fail .noReply ∧
        (∀ other, other ≠ name → t.selection other = s.selection other) ∧
        (s.rep.faults[homeOf a] = none →
          t.rep.faults[homeOf a] =
            some ⟨.noReply, .ask, (s.selection name).askSequence.getD s.bus.sequence, s.now, 0⟩ ∧ flagged t .fault) ∧
        ChangesOnly [.sel, .rep, .key] s t) ∧
    (∀ (p : Node) (b : Bid), s.bids[p] = some b → b.expiry = u →
      ∃ t, exec (.bidRecordExpiry p) s = .next t ∧ t.bids[p] = none ∧
        (∀ q : Node, q ≠ p → t.bids[q] = s.bids[q]) ∧ ChangesOnly [.bids, .rep, .key] s t))

/-- Tier 2. At the window end the bid is won when the band count is below the band limit and the signal count below the
signal limit. A win that is waited on keys the tokens, queues a TXON and commits the governor; a loss that is waited on
refuses the keydown with TOKEN_BUSY; else the tokens are FREE and no frame is queued. At the hang end the tokens are FREE and
a DROP is queued (R118, R119, R123, R126, R135, R161). -/
def Obligations.WindowAndHangEnd : Prop :=
  ∀ (s : State) (b : Band) (u : Tick), s.running = true → reached u s.now = true → s.tok.band = some b → settled s →
    (∀ a, s.tok.state = .bidding → s.tok.antenna = some a → s.tok.windowEnd = some u →
      (bandCount s b < s.cfg.bandLimit[b] → signalCount s < s.cfg.signalLimit → s.key.state = .keyWait →
        ∃ t, exec .windowEnd s = .next t ∧ t.tok = ⟨.keyed, some b, some a, false, none, none⟩ ∧
          t.key.state = .keyWait ∧ t.key.lead = s.key.lead ∧ governorCommits s t b ∧
          (s.bus.queue.length < 12 → queuedTo t (.txon b a) 255) ∧
          ChangesOnly [.tok, .bus, .rep, .gov, .key] s t) ∧
      (s.key.state ≠ .keyWait →
        ∃ t, exec .windowEnd s = .next t ∧ t.tok = Tokens.reset ∧ t.key.state = s.key.state ∧
          t.bus.queue.length = s.bus.queue.length ∧ ChangesOnly [.tok, .bus, .rep, .key] s t) ∧
      (s.cfg.bandLimit[b] ≤ bandCount s b ∨ s.cfg.signalLimit ≤ signalCount s → s.key.state = .keyWait →
        nothingPending s →
        ∃ t, exec .windowEnd s = .next t ∧ t.tok = Tokens.reset ∧ t.key.state = .lockout ∧
          t.key.reason = some .tokenBusy ∧ t.rep.live.keyRefusals = saturate s.rep.live.keyRefusals 1 ∧
          t.bus.queue.length = s.bus.queue.length ∧ ChangesOnly [.tok, .bus, .rep, .drv, .key] s t)) ∧
    (s.tok.state = .hanging → s.tok.hangEnd = some u →
      ∃ t, exec .hangEnd s = .next t ∧ t.tok = Tokens.reset ∧
        (s.bus.queue.length < 12 → queuedTo t (.drop b) 255) ∧ ChangesOnly [.tok, .bus, .rep, .key] s t)

/-! ### The host port -/

/-- Tier 2. In SETUP each item of R183 takes every value within its range at every index within its range, and any other value
or index of the right length is BAD_VALUE. In every mode a wrong length is BAD_REQUEST, and else outside SETUP the reply is
WRONG_STATE; none of these changes anything else (R5, R16, R137, R138, R180, R183). That an unknown item is BAD_VALUE at every
length is log entry 14; that a kind above 2 is judged by the full form of item 17 is log entry 26. -/
def Obligations.PutStoresItem : Prop :=
  ∀ s : State, hostTakes s = true →
    (∀ item index value, value.length + 2 ≤ 40 →
      (∀ cfg, s.mode = .setup → putItem s.cfg item.toNat index.toNat value = .stored cfg →
        ∃ t, exec (.put item index value) s = .next t ∧ t.cfg = cfg ∧ replied s t 0x81 .ok [] ∧
          ChangesOnly [.cfg, .host] s t) ∧
      (s.mode ≠ .setup → putItem s.cfg item.toNat index.toNat value ≠ .wrongLength →
        answersOnly (.put item index value) s 0x81 .wrongState []) ∧
      (putItem s.cfg item.toNat index.toNat value = .wrongLength →
        answersOnly (.put item index value) s 0x81 .badRequest []) ∧
      (s.mode = .setup → item.toNat = 0 ∨ 21 < item.toNat →
        answersOnly (.put item index value) s 0x81 .badValue []) ∧
      (∀ n low high, (item.toNat, n, low, high) ∈ itemShapes →
        (value.length ≠ n → answersOnly (.put item index value) s 0x81 .badRequest []) ∧
        (value.length = n → s.mode ≠ .setup → answersOnly (.put item index value) s 0x81 .wrongState []) ∧
        (value.length = n → s.mode = .setup → index.toNat < low ∨ high < index.toNat →
          answersOnly (.put item index value) s 0x81 .badValue [])) ∧
      (item = 17 → (∀ bands, value ≠ [bands, 2]) →
        (∀ bands kind share coupling feedline pairs, kind ≠ 2 →
          value ≠ antennaBytes bands kind share coupling feedline pairs) →
        answersOnly (.put item index value) s 0x81 .badRequest []) ∧
      (item = 18 → (∀ count pairs, value = count :: pairs → pairs.length ≠ 2 * count.toNat) →
        answersOnly (.put item index value) s 0x81 .badRequest [])) ∧
    (s.mode = .setup → ∀ v w x : Byte,
      putJudged s 1 0 [v] (2 ≤ v.toNat ∧ v.toNat ≤ 8) { s.cfg with nodes := v.toNat } ∧
      (∀ code rate, (code, rate) ∈ [((0 : Byte), BusRate.r62500), (1, .r125000), (2, .r250000)] →
        putStores s 2 0 [code] { s.cfg with rate := rate }) ∧
      (∀ code interval, (code, interval) ∈ [((0 : Byte), RollInterval.ms100), (1, .ms250), (2, .ms500)] →
        putStores s 3 0 [code] { s.cfg with interval := interval }) ∧
      (∀ (b : Band) index, b ≠ 0 → index = byte b.val →
        putJudged s 4 index [v] (v.toNat ≤ 3) { s.cfg with bandLimit := s.cfg.bandLimit.set b v.toNat }) ∧
      putJudged s 5 0 [v] (1 ≤ v.toNat ∧ v.toNat ≤ 8) { s.cfg with signalLimit := v.toNat } ∧
      (∀ code role, (code, role) ∈ [((0 : Byte), Role.position), (1, .tower)] →
        putStores s 6 0 [code] { s.cfg with role := role }) ∧
      (∀ code cls, (code, cls) ∈ [((0 : Byte), Machine.Class.run), (1, .mult), (2, .aux)] →
        putStores s 7 0 [code] { s.cfg with cls := cls }) ∧
      (∀ code policy, (code, policy) ∈ [((0 : Byte), Policy.block), (1, .localKeying)] →
        putStores s 11 0 [code] { s.cfg with policy := policy }) ∧
      (∀ item top : Byte, (item, top) ∈ [((2 : Byte), (2 : Byte)), (3, 2), (6, 1), (7, 2), (11, 1)] → top < v →
        answersOnly (.put item 0 [v]) s 0x81 .badValue []) ∧
      putJudged s 8 0 [v, w] (256 * v.toNat + w.toNat ≤ 30000) { s.cfg with hang := 256 * v.toNat + w.toNat } ∧
      putJudged s 9 0 [v, w] (v.toNat ≤ 50 ∧ w.toNat ≤ 50) { s.cfg with d1 := v.toNat, d2 := w.toNat } ∧
      putJudged s 10 0 [v] (v.toNat ≤ 20) { s.cfg with margin := v.toNat } ∧
      putJudged s 12 0 [v] (5 ≤ v.toNat ∧ v.toNat ≤ 120) { s.cfg with orphanHold := v.toNat } ∧
      (∀ code mode, (code, mode) ∈ [((0 : Byte), GovMode.off), (1, .warn), (2, .enforce)] →
        putJudged s 13 0 [v, w, code] (v.toNat ≤ 60 ∧ w.toNat ≤ 30)
          { s.cfg with dwell := v.toNat, hourLimit := w.toNat, govMode := mode }) ∧
      (2 < x.toNat → answersOnly (.put 13 0 [v, w, x]) s 0x81 .badValue []) ∧
      (∀ (k : Fin 4) index, index = byte k.val →
        putJudged s 14 index [v, w, x]
          (1 ≤ v.toNat ∧ v.toNat ≤ 40 ∧ 1 ≤ w.toNat ∧ w.toNat ≤ 40 ∧ x.toNat ≤ 10)
          { s.cfg with relayClasses := s.cfg.relayClasses.set k ⟨v.toNat, w.toNat, x.toNat⟩ }) ∧
      (∀ (o : Fin 32) index, index = byte o.val →
        (∀ k : Fin 4, putStores s 15 index [byte k.val] { s.cfg with outputClass := s.cfg.outputClass.set o k }) ∧
        (3 < v.toNat → answersOnly (.put 15 index [v]) s 0x81 .badValue []) ∧
        putJudged s 16 index [v] (v.toNat ≤ 1) { s.cfg with rest := setOutput s.cfg.rest o.val (v == 1) }) ∧
      (∀ index bands, putJudged s 17 index [bands, 2] (index.toNat ≤ 15)
        { s.cfg with antennas := s.cfg.antennas.setIfInBounds index.toNat none }) ∧
      (∀ index bands kind share coupling feedline pairs, kind ≠ 2 → pairs.length ≤ 16 →
        (15 < index.toNat →
          answersOnly (.put 17 index (antennaBytes bands kind share coupling feedline pairs)) s 0x81 .badValue []) ∧
        (∀ p : Port, index.toNat = p.val →
          putJudged s 17 index (antennaBytes bands kind share coupling feedline pairs)
            (bands ≠ 0 ∧ bands.getLsbD 0 = false ∧ kind.toNat ≤ 1 ∧ 1 ≤ share.toNat ∧ share.toNat ≤ 4 ∧
              (kind = 0 → share = 1) ∧ coupling.toNat ≤ 15 ∧ feedline.toNat ≤ 7 ∧ pairsFit 1 pairs)
            { s.cfg with antennas := s.cfg.antennas.set p (some ⟨⟨p, bands, if kind = 0 then .tx else .rx,
                share.toNat, coupling.toNat, feedline.toNat⟩, patternOfPairs pairs⟩) })) ∧
      (∀ index (pairs : List (Byte × Byte)), pairs.length ≤ 18 →
        (index = 0 ∨ 7 < index.toNat →
          answersOnly (.put 18 index (byte pairs.length :: pairs.flatMap (fun e => [e.1, e.2]))) s 0x81 .badValue []) ∧
        (∀ b : Band, b ≠ 0 → index = byte b.val →
          putJudged s 18 index (byte pairs.length :: pairs.flatMap (fun e => [e.1, e.2])) (pairsFit 0 pairs)
            { s.cfg with bandPatterns := s.cfg.bandPatterns.set b (patternOfPairs pairs) })) ∧
      (∀ (b : Band) index, b ≠ 0 → index = byte b.val →
        (∀ y z : Fin 8, putStores s 19 index [byte y.val, byte z.val]
          { s.cfg with sliceTx := s.cfg.sliceTx.set b y, sliceRx := s.cfg.sliceRx.set b z }) ∧
        (7 < v.toNat ∨ 7 < w.toNat → answersOnly (.put 19 index [v, w]) s 0x81 .badValue []) ∧
        putJudged s 20 index [v, w] (v.toNat ≤ 7 ∧ 8 ≤ w.toNat ∧ w.toNat ≤ 16)
          { s.cfg with
            defaultTx := s.cfg.defaultTx.set b v.toNat, defaultRx := s.cfg.defaultRx.set b w.toNat }) ∧
      (∀ (e : Fin 64) index, index = byte e.val →
        putStores s 21 index [255] { s.cfg with entries := s.cfg.entries.set e none } ∧
        (∀ a : Antenna, putStores s 21 index [byte a.val] { s.cfg with entries := s.cfg.entries.set e (some a) }) ∧
        (128 ≤ v.toNat → v ≠ 255 → answersOnly (.put 21 index [v]) s 0x81 .badValue [])))

/-- Tier 2. START outside SETUP is WRONG_STATE, a minute or second above 59 BAD_VALUE, and a configuration that fails a check
BAD_CONFIG with the item and index named, the node number first: two antennas outside one feedline group that set one output to
different levels name the higher port, and at a position a band pattern that disagrees with an antenna names its port, the
lowest (which of several conflicts in checks 4 and 5 is named is log entry 15). A START that passes opens the session:
LISTEN_IN for two ROLL intervals, the link allowance and the digest computed, HELLO and the first ROLL queued, the hour
boundary set, the drive word merged with its settle and guard, and a tower's band and sequencer put at rest (R15, R37, R38,
R55, R133, R142, R143, R150, R169, R185, R186). -/
def Obligations.StartOpensSession : Prop :=
  ∀ (s : State) (minute second : Byte), hostTakes s = true →
    (s.mode ≠ .setup → answersOnly (.start minute second) s 0x82 .wrongState []) ∧
    (s.mode = .setup →
      (59 < minute.toNat ∨ 59 < second.toNat → answersOnly (.start minute second) s 0x82 .badValue []) ∧
      (minute.toNat ≤ 59 → second.toNat ≤ 59 →
        (s.cfg.nodes ≤ s.node.val → answersOnly (.start minute second) s 0x82 .badConfig [1, 0]) ∧
        (s.node.val < s.cfg.nodes → s.cfg.role = .tower → s.cfg.govMode ≠ .off →
          answersOnly (.start minute second) s 0x82 .badConfig [13, 0]) ∧
        (s.node.val < s.cfg.nodes → s.cfg.role = .tower → s.cfg.govMode = .off → s.cfg.policy = .localKeying →
          answersOnly (.start minute second) s 0x82 .badConfig [11, 0]) ∧
        (∀ item index, configFault s = some (item, index) →
          answersOnly (.start minute second) s 0x82 .badConfig [byte item, byte index]) ∧
        (∀ p q : Port, firstChecksPass s → p.val < q.val → antennasClash s.cfg p q →
          (∀ p' q' : Port, p'.val < q'.val → antennasClash s.cfg p' q' → q.val ≤ q'.val) →
          answersOnly (.start minute second) s 0x82 .badConfig [17, byte q.val]) ∧
        (∀ p : Port, firstChecksPass s → (∀ p' q' : Port, p' ≠ q' → ¬ antennasClash s.cfg p' q') →
          s.cfg.role = .position → bandClashes s.cfg p → (∀ q : Port, q.val < p.val → ¬ bandClashes s.cfg q) →
          answersOnly (.start minute second) s 0x82 .badConfig [17, byte p.val]) ∧
        (firstChecksPass s → (∀ p' q' : Port, p' ≠ q' → ¬ antennasClash s.cfg p' q') →
          (s.cfg.role = .position → ∀ p : Port, ¬ bandClashes s.cfg p) → configFault s = none) ∧
        (configFault s = none → s.bus.queue = [] →
          ∃ t r, exec (.start minute second) s = .next t ∧ replied s t 0x82 .ok [] ∧ t.mode = .listenIn ∧
            t.tracker = { s.tracker with
              listenInEnd := some (after s.now (2 * s.interval)), lastPeerFrame := s.now } ∧
            t.bus.allowance = some (linkAllowance s.cfg.nodes s.cfg.rate) ∧ t.digest = some (rulesDigest s.cfg) ∧
            t.bus.free = false ∧ t.bus.nextRoll = some (after s.now s.interval) ∧
            t.bus.queue.map QueuedFrame.content = [.hello (rulesDigest s.cfg) (ownDescriptors s), .roll r] ∧
            r.active = false ∧ r.digest = rulesDigest s.cfg ∧
            t.gov = { s.gov with
              nextHour := some (after s.now ((3600 - 60 * minute.toNat - second.toNat) * 1000)) } ∧
            t.drv.word = mergedWord t ∧ driveMoved s t ∧
            (s.cfg.role = .tower → t.band.decoded = 0 ∧ t.key.state = .receive) ∧
            (s.cfg.role = .position → t.band = s.band ∧ t.key.state = s.key.state ∧
              (s.sel.tx.state ≠ .granted → t.rep.levels.getLsbD 5 = true)) ∧
            ChangesOnly [.mode, .tracker, .digest, .bus, .band, .key, .gov, .drv, .rep, .host] s t)))

/-- Tier 2. RESTART in SETUP is WRONG_STATE and a second one BUSY; else it is held with no reply, and aborts a keydown from the
point reached, in KEY_WAIT, STEP_UP or TRANSMIT: KEYED tokens are dropped with a DROP, a bid ends with no frame, and other
tokens stay. It takes effect once the sequencer is at rest and no holder is known keyed: LISTEN_IN, sequence 0, the next epoch,
the records reset, HELLO and ROLL queued, the drive word merged, and its reply; until then the command changes nothing (R36,
R57, R90, R128, R151, R164, R165, R168, R187). When it takes effect is read from R90 (log entry 11), the fields of an ABSENT
record that have no meaning are log entry 6, and that the command changes nothing before is log entry 1. -/
def Obligations.RestartHeldThenTakesEffect : Prop :=
  ∀ s : State,
    (hostTakes s = true →
      (s.mode = .setup → answersOnly .restart s 0x83 .wrongState []) ∧
      (s.mode ≠ .setup → s.host.restartHeld = true → answersOnly .restart s 0x83 .busy []) ∧
      (s.mode ≠ .setup → s.host.restartHeld = false → settled s →
        (s.key.state.keyed = false →
          ∃ t, exec .restart s = .next t ∧ t.host = { s.host with restartHeld := true } ∧
            ChangesOnly [.host, .key, .rep] s t) ∧
        (s.key.state.keyed = true →
          ∃ t, exec .restart s = .next t ∧ t.host = { s.host with restartHeld := true } ∧ keydownEnds s t .restart ∧
            (s.tok.state = .keyed → t.tok = Tokens.reset ∧
              ∀ b, s.tok.band = some b → hasRoom s → queuedTo t (.drop b) 255) ∧
            (s.tok.state = .bidding → t.tok = Tokens.reset ∧
              (tailRuns s ∨ nothingPending s →
                t.bus.queue.map QueuedFrame.content = s.bus.queue.map QueuedFrame.content)) ∧
            (s.tok.state = .free ∨ s.tok.state = .hanging → tailRuns s ∨ releasedBy s .tx = false → t.tok = s.tok) ∧
            (tailRuns s → ChangesOnly [.host, .bus, .tok, .key, .rep] s t) ∧
            (nothingPending s → ChangesOnly [.host, .bus, .tok, .drv, .key, .rep] s t) ∧
            ChangesOnly (.host :: keyBlocks) s t))) ∧
    (s.inReset = false →
      (s.host.restartHeld = true → s.key.state.busy = false → (∀ p, keyedHolder s p = false) →
        ∃ t r, exec .restartTakesEffect s = .next t ∧
          t.host = { s.host with
            restartHeld := false, replies := s.host.replies ++ [⟨0x83, .ok, []⟩] } ∧
          t.mode = .listenIn ∧ t.bus.sequence = 0 ∧ t.bus.epoch = s.bus.epoch + 1 ∧ t.bus.driving = false ∧
          t.bus.queue.map QueuedFrame.content = [.hello (s.digest.getD 0) (ownDescriptors s), .roll r] ∧
          r.active = false ∧ t.bus.nextRoll = some (after s.now s.interval) ∧
          t.bus.openFrame = s.bus.openFrame ∧ t.bus.stray = s.bus.stray ∧
          (∀ n : Node, t.peer n = Peer.reset ∧ t.learned[n] = ⟨false, []⟩ ∧ t.bids[n] = none) ∧
          t.tracker.isolated = false ∧ t.tracker.lastPeerFrame = s.now ∧
          t.tracker.listenInEnd = some (after s.now (2 * s.interval)) ∧
          (∀ p : Port, t.port p = PortRecord.reset) ∧ t.arb.arrivals = 0 ∧ t.sel = SelectionUnit.reset ∧
          t.tok = Tokens.reset ∧ t.drv.word = mergedWord t ∧ t.key = { s.key with protect := t.key.protect } ∧
          t.rep.live = s.rep.live ∧ ChangesOnly restartBlocks s t) ∧
      (s.host.restartHeld = false ∨ s.key.state.busy = true ∨ (∃ p, keyedHolder s p = true) →
        exec .restartTakesEffect s = .next s))

/-- Tier 2. SELECT, RECALL and RELEASE are refused in the order of R95 and R97, put aside while a keydown or its tail runs, and
else carried out: a SELECT pushes the pair (a retry too: log entry 48) and applies the choice, the ASK for an antenna of the
node's own judged in the same command by its own arbiter with no frame, a RECALL pops one, a RELEASE gives up its scope, drops
HANGING tokens with a DROP and answers the actual scope. A record ASKING, WAITING or GRANTED that is given up so owes its peer
home a FREE(release), ahead of every ASK, or leaves its own port (R69, R71–R76, R92, R94–R99, R128, R181). That BUSY while a
RESTART is held comes before every test of the choice and the scope is log entry 30. -/
def Obligations.SelectionRequestsCarriedOut : Prop :=
  ∀ (s : State) (c : Byte), hostTakes s = true →
    (s.host.restartHeld = true →
      answersOnly (.select c) s 0x84 .busy [] ∧ answersOnly .recallPair s 0x85 .busy [] ∧
        answersOnly (.release c) s 0x86 .busy []) ∧
    (s.host.restartHeld = false →
      (16 < c.toNat → answersOnly (.select c) s 0x84 .badValue []) ∧
      (2 < c.toNat → answersOnly (.release c) s 0x86 .badValue []) ∧
      (s.mode ≠ .active →
        (c.toNat ≤ 16 → answersOnly (.select c) s 0x84 .wrongState []) ∧ answersOnly .recallPair s 0x85 .wrongState [] ∧
          (c.toNat ≤ 2 → answersOnly (.release c) s 0x86 .wrongState [])) ∧
      (s.mode = .active → s.cfg.role = .tower →
        (c.toNat ≤ 16 → answersOnly (.select c) s 0x84 .notPosition []) ∧
          answersOnly .recallPair s 0x85 .notPosition [] ∧
          (c.toNat ≤ 2 → answersOnly (.release c) s 0x86 .notPosition [])) ∧
      (s.mode = .active → s.cfg.role = .position → s.band.decoded = 0 →
        (c.toNat ≤ 16 → answersOnly (.select c) s 0x84 .noBand []) ∧ answersOnly .recallPair s 0x85 .noBand []) ∧
      (s.mode = .active → s.cfg.role = .position → s.band.decoded ≠ 0 →
        (c.toNat ≤ 16 → s.key.state.busy = true →
          ∃ t, exec (.select c) s = .next t ∧ replied s t 0x84 .pending [] ∧
            t.sel = (if c.toNat < 8 then { s.sel with slotTx := some ⟨c.toNat, false⟩ }
              else { s.sel with slotRx := some ⟨c.toNat, false⟩ }) ∧
            ChangesOnly [.sel, .host] s t) ∧
        (∀ name, c.toNat ≤ 16 → s.key.state.busy = false → name = (if c.toNat < 8 then .tx else .rx) →
          (alreadyHolds (s.selection name) c.toNat = true → answersOnly (.select c) s 0x84 .ok []) ∧
          (alreadyHolds (s.selection name) c.toNat = false →
            ∃ t, exec (.select c) s = .next t ∧ replied s t 0x84 .ok [] ∧
              (t.selection name).choice = some c.toNat ∧
              (∀ other, other ≠ name → (t.selection other).choice = (s.selection other).choice) ∧
              (∀ tx rx, s.sel.tx.choice = some tx → s.sel.rx.choice = some rx →
                t.sel.memory[s.band.decoded] = pushPair (tx, rx) s.sel.memory[s.band.decoded]) ∧
              (c.toNat = 16 → (t.selection name).state = .empty) ∧
              (hasRoom s → freeQueued s t name) ∧
              (noneDeferred s → s.tok.state ≠ .keyed → choiceAway s s.band.decoded c.toNat → leavesOwnPort s t name) ∧
              (∀ a, entryOf s s.band.decoded c.toNat = some (some a) →
                localCheck s name (some a) = none → homeOf a ≠ s.node → noneDeferred s →
                (∀ old, (s.selection name).antenna = some old → counted s name → homeOf old = s.node →
                  ∀ q, (s.port q).waits = []) →
                s.bus.queue.length + (freeOwed s name).length < 12 →
                t.selection name = ⟨.asking, some c.toNat, some a, none, none,
                  some (after s.now (2 * s.interval)), none, none⟩ ∧
                queuedTo t (.ask (portOf a) (useOf name) s.band.decoded s.cfg.cls) (byte (homeOf a).val) ∧
                freeBefore s t name (.ask (portOf a) (useOf name) s.band.decoded s.cfg.cls) (byte (homeOf a).val)) ∧
              (∀ a p, entryOf s s.band.decoded c.toNat = some (some a) → localCheck s name (some a) = none →
                a = antennaAt s.node p → noneDeferred s →
                (∀ old, (s.selection name).antenna = some old → counted s name → homeOf old ≠ s.node) →
                (freeOwed s name = [] ∨ s.bus.queue.length < 12 →
                  t.bus.queue.map QueuedFrame.content =
                    s.bus.queue.map QueuedFrame.content ++ (freeOwed s name).map Prod.fst) ∧
                ((s.port p).disabled = true →
                  t.selection name =
                    ⟨.failed, some c.toNat, some a, some (.refusedByHome .disabled), none, none, none, none⟩ ∧
                  t.arb = s.arb) ∧
                ((s.port p).disabled = false → holderOf s s.node p ≠ none →
                  t.selection name = ⟨.granted, some c.toNat, some a, none, none, none, some s.now, none⟩ ∧
                  (t.port p).holders =
                    changedAt Holder.node s.node (fun x => { x with uses := x.uses.add (useOf name) }) (s.port p).holders) ∧
                ((s.port p).disabled = false → holderOf s s.node p = none → waiterOf s s.node p ≠ none →
                  t.selection name = ⟨.waiting, some c.toNat, some a, none,
                    some ((s.port p).waits.findIdx (fun x => x.node == s.node) + 1), none, none, none⟩) ∧
                ((s.port p).disabled = false → holderOf s s.node p = none → waiterOf s s.node p = none →
                  (grantable s p (Uses.of (useOf name)) = true →
                    t.selection name = ⟨.granted, some c.toNat, some a, none, none, none,
                      some (after s.now (if t.drv.word = s.drv.word then 0
                        else max (remaining t.drv.localEnd s.now) (remaining t.drv.heldEnd s.now))), none⟩ ∧
                    (t.port p).holders =
                      (s.port p).holders ++ [⟨s.node, Uses.of (useOf name), true, false, 0⟩] ∧
                    t.drv.word = mergedWord t ∧ driveMoved s t) ∧
                  (grantable s p (Uses.of (useOf name)) = false →
                    ∃ pre post, (s.port p).waits = pre ++ post ∧
                      (t.port p).waits =
                        pre ++ ⟨s.node, Uses.of (useOf name), s.cfg.cls, s.arb.arrivals⟩ :: post ∧
                      (∀ w ∈ pre, w.cls.number ≤ s.cfg.cls.number) ∧
                      (∀ w, post.head? = some w → s.cfg.cls.number < w.cls.number) ∧
                      t.arb.arrivals = s.arb.arrivals + 1 ∧
                      t.selection name =
                        ⟨.waiting, some c.toNat, some a, none, some (pre.length + 1), none, none, none⟩))) ∧
              (∀ why entry, entryOf s s.band.decoded c.toNat = some entry → localCheck s name entry = some why →
                (t.selection name).state = .failed ∧ (t.selection name).reason = some (.refusedLocally why)) ∧
              ChangesOnly requestBlocks s t)) ∧
        (s.sel.memory[s.band.decoded] = [] → answersOnly .recallPair s 0x85 .empty []) ∧
        (∀ tx rx rest, s.sel.memory[s.band.decoded] = (tx, rx) :: rest → tx < 8 → 8 ≤ rx → rx ≤ 16 →
          (s.key.state.busy = true →
            ∃ t, exec .recallPair s = .next t ∧ replied s t 0x85 .pending [] ∧ t.sel.slotTx = some ⟨tx, true⟩ ∧
              t.sel.slotRx = some ⟨rx, true⟩ ∧ t.sel.memory[s.band.decoded] = rest ∧ t.sel.tx = s.sel.tx ∧
              t.sel.rx = s.sel.rx ∧ ChangesOnly [.sel, .host] s t) ∧
          (s.key.state.busy = false →
            ∃ t, exec .recallPair s = .next t ∧ replied s t 0x85 .ok [] ∧ t.sel.tx.choice = some tx ∧
              t.sel.rx.choice = some rx ∧ t.sel.memory[s.band.decoded] = rest ∧
              (∀ name choice, (name, choice) ∈ [(SelName.tx, tx), (.rx, rx)] →
                (alreadyHolds (s.selection name) choice = true → noneDeferred s → (∀ q, (s.port q).waits = []) →
                  choiceAway s s.band.decoded tx → choiceAway s s.band.decoded rx →
                  t.selection name = s.selection name) ∧
                (alreadyHolds (s.selection name) choice = false →
                  (s.bus.queue.length < 9 → freeQueued s t name) ∧
                  (noneDeferred s → s.tok.state ≠ .keyed → choiceAway s s.band.decoded tx →
                    choiceAway s s.band.decoded rx → leavesOwnPort s t name) ∧
                  ∀ a, entryOf s s.band.decoded choice = some (some a) → localCheck s name (some a) = none →
                    homeOf a ≠ s.node → noneDeferred s → (∀ q, (s.port q).waits = []) → s.bus.queue.length < 9 →
                    t.selection name = ⟨.asking, some choice, some a, none, none,
                      some (after s.now (2 * s.interval)), none, none⟩ ∧
                    queuedTo t (.ask (portOf a) (useOf name) s.band.decoded s.cfg.cls) (byte (homeOf a).val) ∧
                    ∀ old was, (old, was) ∈ [(SelName.tx, tx), (.rx, rx)] → alreadyHolds (s.selection old) was = false →
                      freeBefore s t old (.ask (portOf a) (useOf name) s.band.decoded s.cfg.cls)
                        (byte (homeOf a).val))) ∧
              ChangesOnly requestBlocks s t))) ∧
      (∀ scope, scopeOf c.toNat = some scope → s.mode = .active → s.cfg.role = .position →
        (s.sel.pendingRelease.isSome = true → answersOnly (.release c) s 0x86 .busy []) ∧
        (s.sel.pendingRelease = none → s.key.state.busy = true →
          ∃ t, exec (.release c) s = .next t ∧ replied s t 0x86 .pending [] ∧ t.sel.pendingRelease = some scope ∧
            (scope.hasTx = true → t.sel.slotTx = none) ∧ (scope.hasRx = true → t.sel.slotRx = none) ∧
            t.sel.tx = s.sel.tx ∧ t.sel.rx = s.sel.rx ∧ ChangesOnly [.sel, .host] s t) ∧
        (s.sel.pendingRelease = none → s.key.state.busy = false →
          ∃ t, exec (.release c) s = .next t ∧ replied s t 0x86 .ok [byte t.sel.actualScope.number] ∧
            (scope.hasTx = true → t.sel.tx = Selection.reset ∧
              (s.tok.state = .hanging → t.tok = Tokens.reset ∧
                t.sel.actualScope = (if scope = .all then .all else .txTokens))) ∧
            (scope.hasRx = true → t.sel.rx = Selection.reset) ∧
            (scope = .rx → s.sel.rx.choice ≠ none → t.sel.actualScope = .rx) ∧
            (scope = .tx → s.sel.tx.choice ≠ none → s.tok.state ≠ .hanging → t.sel.actualScope = .tx) ∧
            (s.sel.tx.choice = none → s.sel.rx.choice = none → s.tok.state ≠ .hanging →
              t.sel.actualScope = .nothing) ∧
            (∀ name, scope.covers name = true → (s.bus.queue.length < 10 → freeQueued s t name) ∧
              (noneDeferred s → s.tok.state ≠ .keyed → leavesOwnPort s t name)) ∧
            (∀ b, scope.hasTx = true → s.tok.state = .hanging → s.tok.band = some b → s.bus.queue.length < 10 →
              queuedTo t (.drop b) 255) ∧
            t.sel.memory = s.sel.memory ∧ ChangesOnly requestBlocks s t)))

/-- Tier 2. EVICT makes a SILENT peer GONE, which aborts a keydown on an antenna of it with REVOKED. DISABLE refuses a port's
waiters and revokes its holders, or leaves the revocation pending while a holder is keyed, the node itself among them, on a
port of one holder or of several, the REFUSEs queued before the FREEs. Revoked from the node itself, a GRANTED selection on the
port fails with REVOKED, which aborts a keydown that rests on it. A feedline so freed goes to the best waiter on another port
of its group, with a GRANT for each use behind the FREEs. ENABLE clears the disabled flag. Each is BUSY while a RESTART is
held, WRONG_STATE in SETUP, and BAD_VALUE for a node or port it does not know (R52, R78, R80, R81, R91, R106, R110, R111, R128,
R141–R143, R165, R181). That BUSY comes before every other test is log entry 30. -/
def Obligations.PeerAndPortRequests : Prop :=
  ∀ (s : State) (v : Byte), hostTakes s = true →
    (s.host.restartHeld = true →
      answersOnly (.evict v) s 0x87 .busy [] ∧ answersOnly (.disable v) s 0x88 .busy [] ∧
        answersOnly (.enable v) s 0x89 .busy []) ∧
    (s.host.restartHeld = false → s.mode = .setup →
      answersOnly (.evict v) s 0x87 .wrongState [] ∧ answersOnly (.disable v) s 0x88 .wrongState [] ∧
        answersOnly (.enable v) s 0x89 .wrongState []) ∧
    (s.host.restartHeld = false → s.mode ≠ .setup →
      (7 < v.toNat ∨ v.toNat = s.node.val ∨ s.cfg.nodes ≤ v.toNat →
        answersOnly (.evict v) s 0x87 .badValue []) ∧
      (∀ p : Node, v.toNat = p.val → p ≠ s.node → p.val < s.cfg.nodes →
        ((s.peer p).state = .current ∨ (s.peer p).state = .stale →
          answersOnly (.evict v) s 0x87 .wrongState []) ∧
        ((s.peer p).state = .absent ∨ (s.peer p).state = .gone → answersOnly (.evict v) s 0x87 .ok []) ∧
        ((s.peer p).state = .silent →
          ∃ t, exec (.evict v) s = .next t ∧ replied s t 0x87 .ok [] ∧ peerVanished s t p ∧ vanishedKeydown s t p ∧
            t.learned = s.learned ∧ ChangesOnly (.host :: peerBlocks) s t)) ∧
      (15 < v.toNat ∨ (∃ p : Port, v.toNat = p.val ∧ s.cfg.antennas[p] = none) →
        answersOnly (.disable v) s 0x88 .badValue [] ∧ answersOnly (.enable v) s 0x89 .badValue []) ∧
      (∀ p : Port, v.toNat = p.val → s.cfg.antennas[p] ≠ none →
        ((s.port p).disabled = true → answersOnly (.disable v) s 0x88 .ok []) ∧
        (∃ t, exec (.enable v) s = .next t ∧ replied s t 0x89 .ok [] ∧
          t.port p = { s.port p with disabled := false } ∧ (∀ q, q ≠ p → t.port q = s.port q) ∧
          t.arb.arrivals = s.arb.arrivals ∧ ChangesOnly [.arb, .host] s t) ∧
        ((s.port p).disabled = false → settled s → (s.port p).holders = [] →
          (∀ w ∈ (s.port p).waits, w.node ≠ s.node) →
          ∃ t, exec (.disable v) s = .next t ∧ replied s t 0x88 .ok [] ∧ keyingKept s t ∧
            t.port p = { s.port p with disabled := true, waits := [] } ∧ (∀ q, q ≠ p → t.port q = s.port q) ∧
            (s.bus.queue.length + (s.port p).waits.length ≤ 12 → ∀ w ∈ (s.port p).waits,
              queuedTo t (.refuse p .disabled) (byte w.node.val)) ∧
            ChangesOnly [.arb, .bus, .rep, .key, .host] s t) ∧
        (∀ w name, (s.port p).disabled = false → settled s → (s.port p).holders = [] → (s.port p).waits = [w] →
          w.node = s.node → (s.selection name).state = .waiting → (s.selection name).antenna = some (antennaAt s.node p) →
          ∃ t, exec (.disable v) s = .next t ∧ replied s t 0x88 .ok [] ∧ keyingKept s t ∧ (t.port p).waits = [] ∧
            t.selection name = (s.selection name).fail (.refusedByHome .disabled) ∧ t.bus.queue = s.bus.queue ∧
            ChangesOnly [.arb, .sel, .rep, .key, .host] s t) ∧
        ((s.port p).disabled = false → settled s → (s.port p).holders ≠ [] →
          (∀ h ∈ (s.port p).holders, h.node = s.node → knownKeyed s h.node p = true) →
          (∀ w ∈ (s.port p).waits, w.node ≠ s.node) → (∀ q, q ≠ p → (s.port q).waits = []) →
          ∃ t, exec (.disable v) s = .next t ∧ replied s t 0x88 .ok [] ∧ keyingKept s t ∧ (t.port p).disabled = true ∧
            (t.port p).holders = (s.port p).holders.filter (fun h => knownKeyed s h.node p) ∧ (t.port p).waits = [] ∧
            (t.port p).revokePending = keyedHolder s p ∧ driveMoved s t ∧
            (keyedHolder s p = false → t.drv.word = mergedWord t) ∧
            (s.bus.queue.length + (s.port p).waits.length + 2 * (s.port p).holders.length ≤ 12 →
              (∀ h ∈ (s.port p).holders, knownKeyed s h.node p = false → ∀ use, h.uses.has use = true →
                queuedTo t (.free p use .revoke) (byte h.node.val) ∧
                ∀ w ∈ (s.port p).waits, queuedBefore t (.refuse p .disabled) (byte w.node.val)
                  (.free p use .revoke) (byte h.node.val)) ∧
              (∀ w ∈ (s.port p).waits, queuedTo t (.refuse p .disabled) (byte w.node.val))) ∧
            ChangesOnly [.arb, .bus, .drv, .rep, .key, .host] s t) ∧
        (∀ h, (s.port p).disabled = false → noneDeferred s → s.key.state.keyed = false → (s.port p).holders = [h] →
          h.node = s.node → knownKeyed s s.node p = false → (∀ w ∈ (s.port p).waits, w.node ≠ s.node) →
          (∀ q, q ≠ p → (s.port q).waits = []) →
          ∃ t, exec (.disable v) s = .next t ∧ replied s t 0x88 .ok [] ∧ keyingKept s t ∧ (t.port p).disabled = true ∧
            (t.port p).holders = [] ∧ (t.port p).waits = [] ∧ (t.port p).revokePending = false ∧
            (∀ q, q ≠ p → t.port q = s.port q) ∧
            (∀ name, t.selection name =
              if h.uses.has (useOf name) = true ∧ (s.selection name).state = .granted ∧
                  (s.selection name).antenna = some (antennaAt s.node p)
              then (s.selection name).fail .revoked else s.selection name) ∧
            ((s.port p).waits = [] → t.bus.queue.map QueuedFrame.content = s.bus.queue.map QueuedFrame.content) ∧
            t.drv.word = mergedWord t ∧ driveMoved s t ∧
            ChangesOnly [.arb, .bus, .sel, .drv, .rep, .key, .host] s t) ∧
        (∀ h, (s.port p).disabled = false → noneDeferred s → s.key.state.keyed = true → s.sel.tx.state = .granted →
          s.sel.tx.antenna = some (antennaAt s.node p) → h ∈ (s.port p).holders → h.node = s.node → h.uses.tx = true →
          s.tok.state ≠ .keyed →
          ∃ t, exec (.disable v) s = .next t ∧ replied s t 0x88 .ok [] ∧ keydownEnds s t .revoked ∧
            (s.tok.state = .bidding → t.tok = s.tok) ∧ (t.port p).disabled = true ∧
            (keptAside s .tx → t.sel.tx = s.sel.tx.fail .revoked) ∧ ChangesOnly requestBlocks s t) ∧
        (∀ q w d, (s.port p).disabled = false → settled s → (s.port p).holders ≠ [] →
          (∀ h ∈ (s.port p).holders, h.node ≠ s.node ∧ knownKeyed s h.node p = false) →
          considered s p q w → q ≠ p → (∀ q' w', considered s p q' w' → w'.node ≠ s.node) →
          (∀ q' w', q' ≠ p → considered s p q' w' → (q', w') ≠ (q, w) → waitsLonger s w w') →
          (∀ q', q' ≠ p → feedlineOf s q' = feedlineOf s p → (s.port q').holders = []) →
          ownDescriptor s q = some d → (s.port q).disabled = false → 1 ≤ d.share → (w.uses.tx = true → d.kind = .tx) →
          ∃ t, exec (.disable v) s = .next t ∧ replied s t 0x88 .ok [] ∧ keyingKept s t ∧
            (t.port p).disabled = true ∧ (t.port p).holders = [] ∧ (t.port p).waits = [] ∧
            (∃ g, ⟨w.node, w.uses, false, g, 0⟩ ∈ (t.port q).holders) ∧ waiterOf t w.node q = none ∧
            (s.bus.queue.length + 2 * (s.port p).holders.length + 2 * waitCount s (offeredPorts s p) ≤ 12 →
              ∀ use, w.uses.has use = true → ∃ settle, queuedTo t (.grant q use settle) (byte w.node.val) ∧
                (∀ h ∈ (s.port p).holders, ∀ use', h.uses.has use' = true →
                  queuedBefore t (.free p use' .revoke) (byte h.node.val) (.grant q use settle) (byte w.node.val)) ∧
                ∀ x ∈ (s.port p).waits,
                  queuedBefore t (.refuse p .disabled) (byte x.node.val) (.grant q use settle) (byte w.node.val)) ∧
            (∀ q', q' ≠ p → feedlineOf s q' ≠ feedlineOf s p → t.port q' = s.port q') ∧
            t.drv.word = mergedWord t ∧ ChangesOnly [.arb, .bus, .drv, .rep, .key, .host] s t)))

/-- Tier 1. STATUS, VIEW and CATALOGUE answer and change nothing but the count of free values (R12, R66, R189). STATUS starts
with the node group and the band lines, then the two selection records, and has the token state behind the current band's
stack. VIEW starts with the state of the peer and has its ROLL, its keyed knowledge, its token standing, the mismatch mark, the
catalogue flag and the bid in their places; an ABSENT record's epoch, sequence and time are not fixed (log entry 7). CATALOGUE
has one descriptor, EMPTY where there is none. These are the model's choices: a presence byte before what may be absent, the
numbers of the modes, A and the digest before START and the body of an EMPTY reply (log entry 16), the stack with its top first
(log entry 39), the numbers of the own token state (log entry 43), the class sent as configured (log entry 44), a flag byte of
1 for set and 0 for clear (log entry 51). -/
def Obligations.StateIsReadByRequests : Prop :=
  ∀ (s : State) (v w : Byte), hostTakes s = true →
    (∃ body, answersOnly .status s 0x8A .ok body ∧
      (∀ role code, (role, code) ∈ [(Role.position, (0 : Byte)), (.tower, 1)] → s.cfg.role = role →
        ∀ cls clsCode, (cls, clsCode) ∈ [(Machine.Class.run, (0 : Byte)), (.mult, 1), (.aux, 2)] → s.cfg.cls = cls →
        ∀ mode modeCode, (mode, modeCode) ∈ [(Mode.setup, (0 : Byte)), (.listenIn, 1), (.active, 2)] → s.mode = mode →
        body.take 16 =
          [byte s.node.val, code, clsCode, modeCode, flagByte s.host.restartHeld, s.now.extractLsb' 24 8,
            s.now.extractLsb' 16 8, s.now.extractLsb' 8 8, s.now.extractLsb' 0 8, flagByte s.tracker.isolated,
            byte (s.bus.allowance.getD 0), (s.digest.getD 0).extractLsb' 8 8, (s.digest.getD 0).extractLsb' 0 8, wantMask s,
            s.band.settled.zeroExtend 8, byte s.band.decoded.val]) ∧
      (∀ state code, (state, code) ∈ [(SelState.empty, (0 : Byte)), (.asking, 1), (.waiting, 2), (.granted, 3), (.reask, 4),
          (.failed, 5)] →
        (s.sel.tx.state = state → body[16]? = some code) ∧ (s.sel.rx.state = state → body[37]? = some code)) ∧
      (∀ state code, (state, code) ∈ [(TokenState.free, (0 : Byte)), (.bidding, 1), (.keyed, 2), (.hanging, 3)] →
        s.tok.state = state → body[75 + 2 * (s.sel.memory[s.band.decoded]).length]? = some code)) ∧
    (s.mode = .setup → answersOnly (.view v) s 0x8C .wrongState []) ∧
    (s.mode ≠ .setup →
      (7 < v.toNat ∨ v.toNat = s.node.val ∨ s.cfg.nodes ≤ v.toNat → answersOnly (.view v) s 0x8C .badValue []) ∧
      (∀ p : Node, v.toNat = p.val → p ≠ s.node → p.val < s.cfg.nodes →
        ∃ t body, exec (.view v) s = .next t ∧ replied s t 0x8C .ok body ∧ ChangesOnly [.host, .freeIndex] s t ∧
          ((s.peer p).state ≠ .absent → t.freeIndex = s.freeIndex ∧
            body[1]? = some ((s.peer p).epoch.zeroExtend 8) ∧ body[2]? = some (s.peer p).sequence ∧
            (body.drop 3).take 4 = [(s.peer p).lastFrame.extractLsb' 24 8, (s.peer p).lastFrame.extractLsb' 16 8,
              (s.peer p).lastFrame.extractLsb' 8 8, (s.peer p).lastFrame.extractLsb' 0 8]) ∧
          (∀ state code, (state, code) ∈ [(PeerState.absent, (0 : Byte)), (.current, 1), (.stale, 2), (.silent, 3),
              (.gone, 4)] → (s.peer p).state = state → body[0]? = some code) ∧
          (∀ r, (s.peer p).roll = some r → (body.drop 12).take 11 = 1 :: (Content.roll r).body) ∧
          ((s.peer p).roll = none → (body.drop 12).take 11 = List.replicate 11 0) ∧
          (∀ k a, (s.peer p).keyed = some k → k.antenna = some a →
            (body.drop 23).take 4 = [1, byte k.band.val, 1, byte a.val]) ∧
          ((s.peer p).keyed = none → body[23]? = some 0) ∧
          (∀ held code, (held, code) ∈ [(Held.free, (0 : Byte)), (.keyed, 1), (.hanging, 2)] →
            ((s.peer p).bandToken = held → body[27]? = some code) ∧
            ((s.peer p).signalToken = held → body[28]? = some code)) ∧
          body[31]? = some (flagByte (s.peer p).mismatch) ∧ body[32]? = some (flagByte s.learned[p].known) ∧
          (s.bids[p] = none → body[33]? = some 0) ∧
          (∀ bid, s.bids[p] = some bid →
            (body.drop 33).take 4 = [1, byte bid.band.val, byte bid.cls.number, byte bid.antenna.val]))) ∧
    (7 < v.toNat ∨ 15 < w.toNat → answersOnly (.catalogueRequest v w) s 0x8D .badValue []) ∧
    (∀ n : Node, v.toNat = n.val → w.toNat ≤ 15 →
      (n ≠ s.node → s.learned[n].known = false → s.learned[n].descriptors = [] →
        answersOnly (.catalogueRequest v w) s 0x8D .empty [0, 0]) ∧
      (n ≠ s.node → s.learned[n].known = true → ∀ d, s.learned[n].descriptors[w.toNat]? = some d →
        answersOnly (.catalogueRequest v w) s 0x8D .ok
          ([1, byte s.learned[n].descriptors.length] ++ d.bytes)) ∧
      (n = s.node → ∀ d, (ownDescriptors s)[w.toNat]? = some d →
        answersOnly (.catalogueRequest v w) s 0x8D .ok ([1, byte (ownDescriptors s).length] ++ d.bytes)) ∧
      (n = s.node → (ownDescriptors s).length ≤ w.toNat →
        answersOnly (.catalogueRequest v w) s 0x8D .empty [1, byte (ownDescriptors s).length]))

/-- Tier 1. NOTICES is taken in every mode: the reply carries the levels and the change flags, every flag is cleared, the
levels stay, and ALERT falls with the flags (R173). -/
def Obligations.NoticesReadClearsFlags : Prop :=
  ∀ s : State, hostTakes s = true →
    ∃ t, exec .notices s = .next t ∧
      replied s t 0x8B .ok [s.rep.levels.zeroExtend 8, (s.rep.flags.zeroExtend 16).extractLsb' 8 8,
        (s.rep.flags.zeroExtend 16).extractLsb' 0 8] ∧
      t.rep = { s.rep with flags := 0, alert := false } ∧ ChangesOnly [.rep, .host] s t

/-- Tier 2. SNAPSHOT copies the live counters and the tick into the holding set, clears them when asked, and refuses another
clear with BAD_VALUE; COUNTERS answers the holding set and the snapshot tick and changes nothing; both in every mode. A hard
reset empties the holding set and RESTART keeps it (R176, R177). -/
def Obligations.SnapshotFillsHoldingSet : Prop :=
  ∀ (s : State) (clear : Byte),
    (hostTakes s = true →
      (clear.toNat ≤ 1 →
        ∃ t, exec (.snapshot clear) s = .next t ∧ replied s t 0x8E .ok [] ∧
          (∀ c, t.rep.holding.get c = s.rep.live.get c ∧
            t.rep.live.get c = if clear = 1 then 0 else s.rep.live.get c) ∧
          t.rep = { s.rep with live := t.rep.live, holding := t.rep.holding, snapshotTick := some s.now } ∧
          ChangesOnly [.rep, .host] s t) ∧
      (1 < clear.toNat → answersOnly (.snapshot clear) s 0x8E .badValue []) ∧
      answersOnly .counters s 0x8F .ok
        (s.rep.holding.toList.flatMap (fun n => [byte (n / 256), byte n])
          ++ (match s.rep.snapshotTick with
            | some t => [1, t.extractLsb' 24 8, t.extractLsb' 16 8, t.extractLsb' 8 8, t.extractLsb' 0 8]
            | none => [0, 0, 0, 0, 0]))) ∧
    (∀ straps byLine, ∃ t, exec (.hardReset straps byLine) s = .next t ∧ t.rep.snapshotTick = none ∧
      ∀ c, t.rep.holding.get c = 0) ∧
    (∃ t, exec .restartTakesEffect s = .next t ∧ t.rep.holding = s.rep.holding ∧
      t.rep.snapshotTick = s.rep.snapshotTick) ∧
    s.rep.holding.toList = [s.rep.holding.framesSent, s.rep.holding.framesReceived, s.rep.holding.framesRejected,
      s.rep.holding.framesLost, s.rep.holding.linkFailures, s.rep.holding.queueOverruns, s.rep.holding.keyRefusals,
      s.rep.holding.keyAborts, s.rep.holding.collisions, s.rep.holding.governorWarnings, s.rep.holding.bandChanges]

/-- Tier 1. FAULTS reads a fault record with its valid flag, EMPTY when there is none; FAULT_CLEAR empties it and raises
nothing; a node above 7 is BAD_VALUE. MASK sets the mask and the global enable and ALERT follows in the same tick; a mask above
4095 or an enable above 1 is BAD_VALUE (R174, R178, R179; the body of an EMPTY reply is log entry 16, the valid flag as 1 or 0
is log entry 51). -/
def Obligations.FaultRecordsAndMask : Prop :=
  ∀ (s : State) (v : Byte), hostTakes s = true →
    (7 < v.toNat → answersOnly (.faults v) s 0x90 .badValue [] ∧ answersOnly (.faultClear v) s 0x91 .badValue []) ∧
    (∀ n : Node, v.toNat = n.val →
      (s.rep.faults[n] = none → answersOnly (.faults v) s 0x90 .empty [0]) ∧
      (∀ f, s.rep.faults[n] = some f →
        answersOnly (.faults v) s 0x90 .ok
          ([1, byte f.kind.number, byte f.frameKind.code, f.sequence] ++ tickBytes f.time ++ [byte f.collapsed])) ∧
      (∃ t, exec (.faultClear v) s = .next t ∧ replied s t 0x91 .ok [] ∧ t.rep.faults[n] = none ∧
        (∀ m : Node, m ≠ n → t.rep.faults[m] = s.rep.faults[m]) ∧ t.rep = { s.rep with faults := t.rep.faults } ∧
        ChangesOnly [.rep, .host] s t)) ∧
    (∀ mask : BitVec 16,
      (4095 < mask.toNat ∨ 1 < v.toNat → answersOnly (.mask mask v) s 0x92 .badValue []) ∧
      (mask.toNat ≤ 4095 → v.toNat ≤ 1 →
        ∃ t, exec (.mask mask v) s = .next t ∧ replied s t 0x92 .ok [] ∧ t.rep.mask.toNat = mask.toNat ∧
          (t.rep.enabled = true ↔ v = 1) ∧ t.rep.flags = s.rep.flags ∧
          (t.rep.alert = true ↔ v = 1 ∧ ∃ k, t.rep.flags.getLsbD k = true ∧ mask.getLsbD k = true) ∧
          t.rep = { s.rep with mask := t.rep.mask, enabled := t.rep.enabled, alert := t.rep.alert } ∧
          ChangesOnly [.rep, .host] s t))

/-- Tier 1. A bad record is answered BAD_REQUEST with its kind, an over-long one at once with the bytes after it discarded
until a gap, an open one when five ticks have passed with no byte; the end of a reply lets the next be sent. While a reply is
outstanding a record closes with no answer and no request is taken; a good request closes the record that holds its first bytes
(R180, R181). That these rows bring the bytes of a record, and what a row whose bytes are not those does, are log entries 20, 1
and 24. -/
def Obligations.HostPortAnswersRecords : Prop :=
  ∀ s : State, s.inReset = false →
    (s.host.discarding = false → ∀ bytes framing kind len rest, bytes ≠ [] →
      s.host.record ++ bytes = kind :: len :: rest →
      (40 < len.toNat →
        ∃ t, exec (.badRequest bytes framing) s = .next t ∧
          t.host = { s.host with
            replies := (if s.host.replies = [] then [⟨kind ||| 0x80, .badRequest, []⟩] else s.host.replies),
            discarding := true, record := [], framingError := false, lastByte := s.now } ∧
          ChangesOnly [.host] s t) ∧
      (len.toNat ≤ 40 → rest.length = len.toNat + 1 →
        framing = true ∨ s.host.framingError = true ∨ recordBad s.cfg (kind :: len :: rest) = true →
        ∃ t, exec (.badRequest bytes framing) s = .next t ∧
          t.host = { s.host with
            replies := (if s.host.replies = [] then [⟨kind ||| 0x80, .badRequest, []⟩] else s.host.replies),
            record := [], framingError := false } ∧
          ChangesOnly [.host] s t) ∧
      (len.toNat ≤ 40 → rest.length ≤ len.toNat →
        ∃ t, exec (.badRequest bytes framing) s = .next t ∧
          t.host = { s.host with
            record := s.host.record ++ bytes, framingError := s.host.framingError || framing, lastByte := s.now } ∧
          ChangesOnly [.host] s t)) ∧
    (s.host.discarding = false → s.host.record = [] → ∀ b framing,
      ∃ t, exec (.badRequest [b] framing) s = .next t ∧
        t.host = { s.host with
          record := [b], framingError := s.host.framingError || framing, lastByte := s.now } ∧
        ChangesOnly [.host] s t) ∧
    (reached (after s.host.lastByte 5) s.now = true →
      (s.host.discarding = true →
        ∃ t, exec (.hostRecordGap s.host.record) s = .next t ∧ t.host = { s.host with discarding := false } ∧
          ChangesOnly [.host] s t) ∧
      (∀ kind rest, s.host.discarding = false → s.host.record = kind :: rest →
        ∃ t, exec (.hostRecordGap s.host.record) s = .next t ∧
          t.host = { s.host with
            replies := (if s.host.replies = [] then [⟨kind ||| 0x80, .badRequest, []⟩] else s.host.replies),
            record := [], framingError := false } ∧
          ChangesOnly [.host] s t)) ∧
    (∀ bytes, reached (after s.host.lastByte 5) s.now = false ∨ (s.host.discarding = false ∧ s.host.record = []) ∨
        bytes ≠ s.host.record →
      exec (.hostRecordGap bytes) s = .next s) ∧
    (∃ t, exec .hostReplySent s = .next t ∧ t.host = { s.host with replies := s.host.replies.tail } ∧
      ChangesOnly [.host] s t) ∧
    (s.host.discarding = true → ∀ bytes framing, bytes ≠ [] →
      exec (.badRequest bytes framing) s = .next (s.setHost { s.host with lastByte := s.now })) ∧
    (∀ v w value mask, value.length + 2 ≤ 40 →
      ∀ c kind body, (c, kind, body) ∈ [(Instr.put v w value, (1 : Byte), v :: w :: value), (.start v w, 2, [v, w]),
        (.restart, 3, []), (.select v, 4, [v]), (.recallPair, 5, []), (.release v, 6, [v]), (.evict v, 7, [v]),
        (.disable v, 8, [v]), (.enable v, 9, [v]), (.status, 10, []), (.notices, 11, []), (.view v, 12, [v]),
        (.catalogueRequest v w, 13, [v, w]), (.snapshot v, 14, [v]), (.counters, 15, []), (.faults v, 16, [v]),
        (.faultClear v, 17, [v]), (.mask mask v, 18, [mask.extractLsb' 8 8, mask.extractLsb' 0 8, v])] →
      (s.host.discarding = true → exec c s = .next (s.setHost { s.host with lastByte := s.now })) ∧
      (s.host.discarding = false → s.host.framingError = false → s.host.record <+: requestBytes kind body →
        (s.host.replies = [] → exec c s = exec c (s.setHost { s.host with record := [] })) ∧
        (s.host.replies ≠ [] → exec c s = .next (s.setHost { s.host with record := [] }))) ∧
      (s.host.discarding = false → s.host.framingError = true ∨ ¬ s.host.record <+: requestBytes kind body →
        exec c s = .next s))
end

