-- ==== Sys2Proof/Laws/State.lean ====
section
/-! SUPPORT. One lemma for each field under each update of State, true by rfl. -/

namespace Sys2Proof.Machine

variable (s : State)

section pending

variable (x : List Instr)

@[simp] theorem State.setPending_pending : (s.setPending x).pending = x := rfl
@[simp] theorem State.setPending_freeIndex : (s.setPending x).freeIndex = s.freeIndex := rfl
@[simp] theorem State.setPending_node : (s.setPending x).node = s.node := rfl
@[simp] theorem State.setPending_inReset : (s.setPending x).inReset = s.inReset := rfl
@[simp] theorem State.setPending_now : (s.setPending x).now = s.now := rfl
@[simp] theorem State.setPending_lines : (s.setPending x).lines = s.lines := rfl
@[simp] theorem State.setPending_mode : (s.setPending x).mode = s.mode := rfl
@[simp] theorem State.setPending_cfg : (s.setPending x).cfg = s.cfg := rfl
@[simp] theorem State.setPending_digest : (s.setPending x).digest = s.digest := rfl
@[simp] theorem State.setPending_band : (s.setPending x).band = s.band := rfl
@[simp] theorem State.setPending_bus : (s.setPending x).bus = s.bus := rfl
@[simp] theorem State.setPending_learned : (s.setPending x).learned = s.learned := rfl
@[simp] theorem State.setPending_tracker : (s.setPending x).tracker = s.tracker := rfl
@[simp] theorem State.setPending_arb : (s.setPending x).arb = s.arb := rfl
@[simp] theorem State.setPending_sel : (s.setPending x).sel = s.sel := rfl
@[simp] theorem State.setPending_tok : (s.setPending x).tok = s.tok := rfl
@[simp] theorem State.setPending_bids : (s.setPending x).bids = s.bids := rfl
@[simp] theorem State.setPending_gov : (s.setPending x).gov = s.gov := rfl
@[simp] theorem State.setPending_drv : (s.setPending x).drv = s.drv := rfl
@[simp] theorem State.setPending_key : (s.setPending x).key = s.key := rfl
@[simp] theorem State.setPending_rep : (s.setPending x).rep = s.rep := rfl
@[simp] theorem State.setPending_host : (s.setPending x).host = s.host := rfl

end pending

section freeIndex

variable (x : Nat)

@[simp] theorem State.setFreeIndex_pending : (s.setFreeIndex x).pending = s.pending := rfl
@[simp] theorem State.setFreeIndex_freeIndex : (s.setFreeIndex x).freeIndex = x := rfl
@[simp] theorem State.setFreeIndex_node : (s.setFreeIndex x).node = s.node := rfl
@[simp] theorem State.setFreeIndex_inReset : (s.setFreeIndex x).inReset = s.inReset := rfl
@[simp] theorem State.setFreeIndex_now : (s.setFreeIndex x).now = s.now := rfl
@[simp] theorem State.setFreeIndex_lines : (s.setFreeIndex x).lines = s.lines := rfl
@[simp] theorem State.setFreeIndex_mode : (s.setFreeIndex x).mode = s.mode := rfl
@[simp] theorem State.setFreeIndex_cfg : (s.setFreeIndex x).cfg = s.cfg := rfl
@[simp] theorem State.setFreeIndex_digest : (s.setFreeIndex x).digest = s.digest := rfl
@[simp] theorem State.setFreeIndex_band : (s.setFreeIndex x).band = s.band := rfl
@[simp] theorem State.setFreeIndex_bus : (s.setFreeIndex x).bus = s.bus := rfl
@[simp] theorem State.setFreeIndex_learned : (s.setFreeIndex x).learned = s.learned := rfl
@[simp] theorem State.setFreeIndex_tracker : (s.setFreeIndex x).tracker = s.tracker := rfl
@[simp] theorem State.setFreeIndex_arb : (s.setFreeIndex x).arb = s.arb := rfl
@[simp] theorem State.setFreeIndex_sel : (s.setFreeIndex x).sel = s.sel := rfl
@[simp] theorem State.setFreeIndex_tok : (s.setFreeIndex x).tok = s.tok := rfl
@[simp] theorem State.setFreeIndex_bids : (s.setFreeIndex x).bids = s.bids := rfl
@[simp] theorem State.setFreeIndex_gov : (s.setFreeIndex x).gov = s.gov := rfl
@[simp] theorem State.setFreeIndex_drv : (s.setFreeIndex x).drv = s.drv := rfl
@[simp] theorem State.setFreeIndex_key : (s.setFreeIndex x).key = s.key := rfl
@[simp] theorem State.setFreeIndex_rep : (s.setFreeIndex x).rep = s.rep := rfl
@[simp] theorem State.setFreeIndex_host : (s.setFreeIndex x).host = s.host := rfl

end freeIndex

section inReset

variable (x : Bool)

@[simp] theorem State.setInReset_pending : (s.setInReset x).pending = s.pending := rfl
@[simp] theorem State.setInReset_freeIndex : (s.setInReset x).freeIndex = s.freeIndex := rfl
@[simp] theorem State.setInReset_node : (s.setInReset x).node = s.node := rfl
@[simp] theorem State.setInReset_inReset : (s.setInReset x).inReset = x := rfl
@[simp] theorem State.setInReset_now : (s.setInReset x).now = s.now := rfl
@[simp] theorem State.setInReset_lines : (s.setInReset x).lines = s.lines := rfl
@[simp] theorem State.setInReset_mode : (s.setInReset x).mode = s.mode := rfl
@[simp] theorem State.setInReset_cfg : (s.setInReset x).cfg = s.cfg := rfl
@[simp] theorem State.setInReset_digest : (s.setInReset x).digest = s.digest := rfl
@[simp] theorem State.setInReset_band : (s.setInReset x).band = s.band := rfl
@[simp] theorem State.setInReset_bus : (s.setInReset x).bus = s.bus := rfl
@[simp] theorem State.setInReset_learned : (s.setInReset x).learned = s.learned := rfl
@[simp] theorem State.setInReset_tracker : (s.setInReset x).tracker = s.tracker := rfl
@[simp] theorem State.setInReset_arb : (s.setInReset x).arb = s.arb := rfl
@[simp] theorem State.setInReset_sel : (s.setInReset x).sel = s.sel := rfl
@[simp] theorem State.setInReset_tok : (s.setInReset x).tok = s.tok := rfl
@[simp] theorem State.setInReset_bids : (s.setInReset x).bids = s.bids := rfl
@[simp] theorem State.setInReset_gov : (s.setInReset x).gov = s.gov := rfl
@[simp] theorem State.setInReset_drv : (s.setInReset x).drv = s.drv := rfl
@[simp] theorem State.setInReset_key : (s.setInReset x).key = s.key := rfl
@[simp] theorem State.setInReset_rep : (s.setInReset x).rep = s.rep := rfl
@[simp] theorem State.setInReset_host : (s.setInReset x).host = s.host := rfl

end inReset

section now

variable (x : Tick)

@[simp] theorem State.setNow_pending : (s.setNow x).pending = s.pending := rfl
@[simp] theorem State.setNow_freeIndex : (s.setNow x).freeIndex = s.freeIndex := rfl
@[simp] theorem State.setNow_node : (s.setNow x).node = s.node := rfl
@[simp] theorem State.setNow_inReset : (s.setNow x).inReset = s.inReset := rfl
@[simp] theorem State.setNow_now : (s.setNow x).now = x := rfl
@[simp] theorem State.setNow_lines : (s.setNow x).lines = s.lines := rfl
@[simp] theorem State.setNow_mode : (s.setNow x).mode = s.mode := rfl
@[simp] theorem State.setNow_cfg : (s.setNow x).cfg = s.cfg := rfl
@[simp] theorem State.setNow_digest : (s.setNow x).digest = s.digest := rfl
@[simp] theorem State.setNow_band : (s.setNow x).band = s.band := rfl
@[simp] theorem State.setNow_bus : (s.setNow x).bus = s.bus := rfl
@[simp] theorem State.setNow_learned : (s.setNow x).learned = s.learned := rfl
@[simp] theorem State.setNow_tracker : (s.setNow x).tracker = s.tracker := rfl
@[simp] theorem State.setNow_arb : (s.setNow x).arb = s.arb := rfl
@[simp] theorem State.setNow_sel : (s.setNow x).sel = s.sel := rfl
@[simp] theorem State.setNow_tok : (s.setNow x).tok = s.tok := rfl
@[simp] theorem State.setNow_bids : (s.setNow x).bids = s.bids := rfl
@[simp] theorem State.setNow_gov : (s.setNow x).gov = s.gov := rfl
@[simp] theorem State.setNow_drv : (s.setNow x).drv = s.drv := rfl
@[simp] theorem State.setNow_key : (s.setNow x).key = s.key := rfl
@[simp] theorem State.setNow_rep : (s.setNow x).rep = s.rep := rfl
@[simp] theorem State.setNow_host : (s.setNow x).host = s.host := rfl

end now

section lines

variable (x : Lines)

@[simp] theorem State.setLines_pending : (s.setLines x).pending = s.pending := rfl
@[simp] theorem State.setLines_freeIndex : (s.setLines x).freeIndex = s.freeIndex := rfl
@[simp] theorem State.setLines_node : (s.setLines x).node = s.node := rfl
@[simp] theorem State.setLines_inReset : (s.setLines x).inReset = s.inReset := rfl
@[simp] theorem State.setLines_now : (s.setLines x).now = s.now := rfl
@[simp] theorem State.setLines_lines : (s.setLines x).lines = x := rfl
@[simp] theorem State.setLines_mode : (s.setLines x).mode = s.mode := rfl
@[simp] theorem State.setLines_cfg : (s.setLines x).cfg = s.cfg := rfl
@[simp] theorem State.setLines_digest : (s.setLines x).digest = s.digest := rfl
@[simp] theorem State.setLines_band : (s.setLines x).band = s.band := rfl
@[simp] theorem State.setLines_bus : (s.setLines x).bus = s.bus := rfl
@[simp] theorem State.setLines_learned : (s.setLines x).learned = s.learned := rfl
@[simp] theorem State.setLines_tracker : (s.setLines x).tracker = s.tracker := rfl
@[simp] theorem State.setLines_arb : (s.setLines x).arb = s.arb := rfl
@[simp] theorem State.setLines_sel : (s.setLines x).sel = s.sel := rfl
@[simp] theorem State.setLines_tok : (s.setLines x).tok = s.tok := rfl
@[simp] theorem State.setLines_bids : (s.setLines x).bids = s.bids := rfl
@[simp] theorem State.setLines_gov : (s.setLines x).gov = s.gov := rfl
@[simp] theorem State.setLines_drv : (s.setLines x).drv = s.drv := rfl
@[simp] theorem State.setLines_key : (s.setLines x).key = s.key := rfl
@[simp] theorem State.setLines_rep : (s.setLines x).rep = s.rep := rfl
@[simp] theorem State.setLines_host : (s.setLines x).host = s.host := rfl

end lines

section mode

variable (x : Mode)

@[simp] theorem State.setMode_pending : (s.setMode x).pending = s.pending := rfl
@[simp] theorem State.setMode_freeIndex : (s.setMode x).freeIndex = s.freeIndex := rfl
@[simp] theorem State.setMode_node : (s.setMode x).node = s.node := rfl
@[simp] theorem State.setMode_inReset : (s.setMode x).inReset = s.inReset := rfl
@[simp] theorem State.setMode_now : (s.setMode x).now = s.now := rfl
@[simp] theorem State.setMode_lines : (s.setMode x).lines = s.lines := rfl
@[simp] theorem State.setMode_mode : (s.setMode x).mode = x := rfl
@[simp] theorem State.setMode_cfg : (s.setMode x).cfg = s.cfg := rfl
@[simp] theorem State.setMode_digest : (s.setMode x).digest = s.digest := rfl
@[simp] theorem State.setMode_band : (s.setMode x).band = s.band := rfl
@[simp] theorem State.setMode_bus : (s.setMode x).bus = s.bus := rfl
@[simp] theorem State.setMode_learned : (s.setMode x).learned = s.learned := rfl
@[simp] theorem State.setMode_tracker : (s.setMode x).tracker = s.tracker := rfl
@[simp] theorem State.setMode_arb : (s.setMode x).arb = s.arb := rfl
@[simp] theorem State.setMode_sel : (s.setMode x).sel = s.sel := rfl
@[simp] theorem State.setMode_tok : (s.setMode x).tok = s.tok := rfl
@[simp] theorem State.setMode_bids : (s.setMode x).bids = s.bids := rfl
@[simp] theorem State.setMode_gov : (s.setMode x).gov = s.gov := rfl
@[simp] theorem State.setMode_drv : (s.setMode x).drv = s.drv := rfl
@[simp] theorem State.setMode_key : (s.setMode x).key = s.key := rfl
@[simp] theorem State.setMode_rep : (s.setMode x).rep = s.rep := rfl
@[simp] theorem State.setMode_host : (s.setMode x).host = s.host := rfl

end mode

section cfg

variable (x : Store)

@[simp] theorem State.setCfg_pending : (s.setCfg x).pending = s.pending := rfl
@[simp] theorem State.setCfg_freeIndex : (s.setCfg x).freeIndex = s.freeIndex := rfl
@[simp] theorem State.setCfg_node : (s.setCfg x).node = s.node := rfl
@[simp] theorem State.setCfg_inReset : (s.setCfg x).inReset = s.inReset := rfl
@[simp] theorem State.setCfg_now : (s.setCfg x).now = s.now := rfl
@[simp] theorem State.setCfg_lines : (s.setCfg x).lines = s.lines := rfl
@[simp] theorem State.setCfg_mode : (s.setCfg x).mode = s.mode := rfl
@[simp] theorem State.setCfg_cfg : (s.setCfg x).cfg = x := rfl
@[simp] theorem State.setCfg_digest : (s.setCfg x).digest = s.digest := rfl
@[simp] theorem State.setCfg_band : (s.setCfg x).band = s.band := rfl
@[simp] theorem State.setCfg_bus : (s.setCfg x).bus = s.bus := rfl
@[simp] theorem State.setCfg_learned : (s.setCfg x).learned = s.learned := rfl
@[simp] theorem State.setCfg_tracker : (s.setCfg x).tracker = s.tracker := rfl
@[simp] theorem State.setCfg_arb : (s.setCfg x).arb = s.arb := rfl
@[simp] theorem State.setCfg_sel : (s.setCfg x).sel = s.sel := rfl
@[simp] theorem State.setCfg_tok : (s.setCfg x).tok = s.tok := rfl
@[simp] theorem State.setCfg_bids : (s.setCfg x).bids = s.bids := rfl
@[simp] theorem State.setCfg_gov : (s.setCfg x).gov = s.gov := rfl
@[simp] theorem State.setCfg_drv : (s.setCfg x).drv = s.drv := rfl
@[simp] theorem State.setCfg_key : (s.setCfg x).key = s.key := rfl
@[simp] theorem State.setCfg_rep : (s.setCfg x).rep = s.rep := rfl
@[simp] theorem State.setCfg_host : (s.setCfg x).host = s.host := rfl

end cfg

section digest

variable (x : Option (BitVec 16))

@[simp] theorem State.setDigest_pending : (s.setDigest x).pending = s.pending := rfl
@[simp] theorem State.setDigest_freeIndex : (s.setDigest x).freeIndex = s.freeIndex := rfl
@[simp] theorem State.setDigest_node : (s.setDigest x).node = s.node := rfl
@[simp] theorem State.setDigest_inReset : (s.setDigest x).inReset = s.inReset := rfl
@[simp] theorem State.setDigest_now : (s.setDigest x).now = s.now := rfl
@[simp] theorem State.setDigest_lines : (s.setDigest x).lines = s.lines := rfl
@[simp] theorem State.setDigest_mode : (s.setDigest x).mode = s.mode := rfl
@[simp] theorem State.setDigest_cfg : (s.setDigest x).cfg = s.cfg := rfl
@[simp] theorem State.setDigest_digest : (s.setDigest x).digest = x := rfl
@[simp] theorem State.setDigest_band : (s.setDigest x).band = s.band := rfl
@[simp] theorem State.setDigest_bus : (s.setDigest x).bus = s.bus := rfl
@[simp] theorem State.setDigest_learned : (s.setDigest x).learned = s.learned := rfl
@[simp] theorem State.setDigest_tracker : (s.setDigest x).tracker = s.tracker := rfl
@[simp] theorem State.setDigest_arb : (s.setDigest x).arb = s.arb := rfl
@[simp] theorem State.setDigest_sel : (s.setDigest x).sel = s.sel := rfl
@[simp] theorem State.setDigest_tok : (s.setDigest x).tok = s.tok := rfl
@[simp] theorem State.setDigest_bids : (s.setDigest x).bids = s.bids := rfl
@[simp] theorem State.setDigest_gov : (s.setDigest x).gov = s.gov := rfl
@[simp] theorem State.setDigest_drv : (s.setDigest x).drv = s.drv := rfl
@[simp] theorem State.setDigest_key : (s.setDigest x).key = s.key := rfl
@[simp] theorem State.setDigest_rep : (s.setDigest x).rep = s.rep := rfl
@[simp] theorem State.setDigest_host : (s.setDigest x).host = s.host := rfl

end digest

section band

variable (x : BandDecoder)

@[simp] theorem State.setBand_pending : (s.setBand x).pending = s.pending := rfl
@[simp] theorem State.setBand_freeIndex : (s.setBand x).freeIndex = s.freeIndex := rfl
@[simp] theorem State.setBand_node : (s.setBand x).node = s.node := rfl
@[simp] theorem State.setBand_inReset : (s.setBand x).inReset = s.inReset := rfl
@[simp] theorem State.setBand_now : (s.setBand x).now = s.now := rfl
@[simp] theorem State.setBand_lines : (s.setBand x).lines = s.lines := rfl
@[simp] theorem State.setBand_mode : (s.setBand x).mode = s.mode := rfl
@[simp] theorem State.setBand_cfg : (s.setBand x).cfg = s.cfg := rfl
@[simp] theorem State.setBand_digest : (s.setBand x).digest = s.digest := rfl
@[simp] theorem State.setBand_band : (s.setBand x).band = x := rfl
@[simp] theorem State.setBand_bus : (s.setBand x).bus = s.bus := rfl
@[simp] theorem State.setBand_learned : (s.setBand x).learned = s.learned := rfl
@[simp] theorem State.setBand_tracker : (s.setBand x).tracker = s.tracker := rfl
@[simp] theorem State.setBand_arb : (s.setBand x).arb = s.arb := rfl
@[simp] theorem State.setBand_sel : (s.setBand x).sel = s.sel := rfl
@[simp] theorem State.setBand_tok : (s.setBand x).tok = s.tok := rfl
@[simp] theorem State.setBand_bids : (s.setBand x).bids = s.bids := rfl
@[simp] theorem State.setBand_gov : (s.setBand x).gov = s.gov := rfl
@[simp] theorem State.setBand_drv : (s.setBand x).drv = s.drv := rfl
@[simp] theorem State.setBand_key : (s.setBand x).key = s.key := rfl
@[simp] theorem State.setBand_rep : (s.setBand x).rep = s.rep := rfl
@[simp] theorem State.setBand_host : (s.setBand x).host = s.host := rfl

end band

section bus

variable (x : Bus)

@[simp] theorem State.setBus_pending : (s.setBus x).pending = s.pending := rfl
@[simp] theorem State.setBus_freeIndex : (s.setBus x).freeIndex = s.freeIndex := rfl
@[simp] theorem State.setBus_node : (s.setBus x).node = s.node := rfl
@[simp] theorem State.setBus_inReset : (s.setBus x).inReset = s.inReset := rfl
@[simp] theorem State.setBus_now : (s.setBus x).now = s.now := rfl
@[simp] theorem State.setBus_lines : (s.setBus x).lines = s.lines := rfl
@[simp] theorem State.setBus_mode : (s.setBus x).mode = s.mode := rfl
@[simp] theorem State.setBus_cfg : (s.setBus x).cfg = s.cfg := rfl
@[simp] theorem State.setBus_digest : (s.setBus x).digest = s.digest := rfl
@[simp] theorem State.setBus_band : (s.setBus x).band = s.band := rfl
@[simp] theorem State.setBus_bus : (s.setBus x).bus = x := rfl
@[simp] theorem State.setBus_learned : (s.setBus x).learned = s.learned := rfl
@[simp] theorem State.setBus_tracker : (s.setBus x).tracker = s.tracker := rfl
@[simp] theorem State.setBus_arb : (s.setBus x).arb = s.arb := rfl
@[simp] theorem State.setBus_sel : (s.setBus x).sel = s.sel := rfl
@[simp] theorem State.setBus_tok : (s.setBus x).tok = s.tok := rfl
@[simp] theorem State.setBus_bids : (s.setBus x).bids = s.bids := rfl
@[simp] theorem State.setBus_gov : (s.setBus x).gov = s.gov := rfl
@[simp] theorem State.setBus_drv : (s.setBus x).drv = s.drv := rfl
@[simp] theorem State.setBus_key : (s.setBus x).key = s.key := rfl
@[simp] theorem State.setBus_rep : (s.setBus x).rep = s.rep := rfl
@[simp] theorem State.setBus_host : (s.setBus x).host = s.host := rfl

end bus

section learned

variable (x : Vector Learned 8)

@[simp] theorem State.setLearned_pending : (s.setLearned x).pending = s.pending := rfl
@[simp] theorem State.setLearned_freeIndex : (s.setLearned x).freeIndex = s.freeIndex := rfl
@[simp] theorem State.setLearned_node : (s.setLearned x).node = s.node := rfl
@[simp] theorem State.setLearned_inReset : (s.setLearned x).inReset = s.inReset := rfl
@[simp] theorem State.setLearned_now : (s.setLearned x).now = s.now := rfl
@[simp] theorem State.setLearned_lines : (s.setLearned x).lines = s.lines := rfl
@[simp] theorem State.setLearned_mode : (s.setLearned x).mode = s.mode := rfl
@[simp] theorem State.setLearned_cfg : (s.setLearned x).cfg = s.cfg := rfl
@[simp] theorem State.setLearned_digest : (s.setLearned x).digest = s.digest := rfl
@[simp] theorem State.setLearned_band : (s.setLearned x).band = s.band := rfl
@[simp] theorem State.setLearned_bus : (s.setLearned x).bus = s.bus := rfl
@[simp] theorem State.setLearned_learned : (s.setLearned x).learned = x := rfl
@[simp] theorem State.setLearned_tracker : (s.setLearned x).tracker = s.tracker := rfl
@[simp] theorem State.setLearned_arb : (s.setLearned x).arb = s.arb := rfl
@[simp] theorem State.setLearned_sel : (s.setLearned x).sel = s.sel := rfl
@[simp] theorem State.setLearned_tok : (s.setLearned x).tok = s.tok := rfl
@[simp] theorem State.setLearned_bids : (s.setLearned x).bids = s.bids := rfl
@[simp] theorem State.setLearned_gov : (s.setLearned x).gov = s.gov := rfl
@[simp] theorem State.setLearned_drv : (s.setLearned x).drv = s.drv := rfl
@[simp] theorem State.setLearned_key : (s.setLearned x).key = s.key := rfl
@[simp] theorem State.setLearned_rep : (s.setLearned x).rep = s.rep := rfl
@[simp] theorem State.setLearned_host : (s.setLearned x).host = s.host := rfl

end learned

section tracker

variable (x : Tracker)

@[simp] theorem State.setTracker_pending : (s.setTracker x).pending = s.pending := rfl
@[simp] theorem State.setTracker_freeIndex : (s.setTracker x).freeIndex = s.freeIndex := rfl
@[simp] theorem State.setTracker_node : (s.setTracker x).node = s.node := rfl
@[simp] theorem State.setTracker_inReset : (s.setTracker x).inReset = s.inReset := rfl
@[simp] theorem State.setTracker_now : (s.setTracker x).now = s.now := rfl
@[simp] theorem State.setTracker_lines : (s.setTracker x).lines = s.lines := rfl
@[simp] theorem State.setTracker_mode : (s.setTracker x).mode = s.mode := rfl
@[simp] theorem State.setTracker_cfg : (s.setTracker x).cfg = s.cfg := rfl
@[simp] theorem State.setTracker_digest : (s.setTracker x).digest = s.digest := rfl
@[simp] theorem State.setTracker_band : (s.setTracker x).band = s.band := rfl
@[simp] theorem State.setTracker_bus : (s.setTracker x).bus = s.bus := rfl
@[simp] theorem State.setTracker_learned : (s.setTracker x).learned = s.learned := rfl
@[simp] theorem State.setTracker_tracker : (s.setTracker x).tracker = x := rfl
@[simp] theorem State.setTracker_arb : (s.setTracker x).arb = s.arb := rfl
@[simp] theorem State.setTracker_sel : (s.setTracker x).sel = s.sel := rfl
@[simp] theorem State.setTracker_tok : (s.setTracker x).tok = s.tok := rfl
@[simp] theorem State.setTracker_bids : (s.setTracker x).bids = s.bids := rfl
@[simp] theorem State.setTracker_gov : (s.setTracker x).gov = s.gov := rfl
@[simp] theorem State.setTracker_drv : (s.setTracker x).drv = s.drv := rfl
@[simp] theorem State.setTracker_key : (s.setTracker x).key = s.key := rfl
@[simp] theorem State.setTracker_rep : (s.setTracker x).rep = s.rep := rfl
@[simp] theorem State.setTracker_host : (s.setTracker x).host = s.host := rfl

end tracker

section arb

variable (x : Arbiter)

@[simp] theorem State.setArb_pending : (s.setArb x).pending = s.pending := rfl
@[simp] theorem State.setArb_freeIndex : (s.setArb x).freeIndex = s.freeIndex := rfl
@[simp] theorem State.setArb_node : (s.setArb x).node = s.node := rfl
@[simp] theorem State.setArb_inReset : (s.setArb x).inReset = s.inReset := rfl
@[simp] theorem State.setArb_now : (s.setArb x).now = s.now := rfl
@[simp] theorem State.setArb_lines : (s.setArb x).lines = s.lines := rfl
@[simp] theorem State.setArb_mode : (s.setArb x).mode = s.mode := rfl
@[simp] theorem State.setArb_cfg : (s.setArb x).cfg = s.cfg := rfl
@[simp] theorem State.setArb_digest : (s.setArb x).digest = s.digest := rfl
@[simp] theorem State.setArb_band : (s.setArb x).band = s.band := rfl
@[simp] theorem State.setArb_bus : (s.setArb x).bus = s.bus := rfl
@[simp] theorem State.setArb_learned : (s.setArb x).learned = s.learned := rfl
@[simp] theorem State.setArb_tracker : (s.setArb x).tracker = s.tracker := rfl
@[simp] theorem State.setArb_arb : (s.setArb x).arb = x := rfl
@[simp] theorem State.setArb_sel : (s.setArb x).sel = s.sel := rfl
@[simp] theorem State.setArb_tok : (s.setArb x).tok = s.tok := rfl
@[simp] theorem State.setArb_bids : (s.setArb x).bids = s.bids := rfl
@[simp] theorem State.setArb_gov : (s.setArb x).gov = s.gov := rfl
@[simp] theorem State.setArb_drv : (s.setArb x).drv = s.drv := rfl
@[simp] theorem State.setArb_key : (s.setArb x).key = s.key := rfl
@[simp] theorem State.setArb_rep : (s.setArb x).rep = s.rep := rfl
@[simp] theorem State.setArb_host : (s.setArb x).host = s.host := rfl

end arb

section sel

variable (x : SelectionUnit)

@[simp] theorem State.setSel_pending : (s.setSel x).pending = s.pending := rfl
@[simp] theorem State.setSel_freeIndex : (s.setSel x).freeIndex = s.freeIndex := rfl
@[simp] theorem State.setSel_node : (s.setSel x).node = s.node := rfl
@[simp] theorem State.setSel_inReset : (s.setSel x).inReset = s.inReset := rfl
@[simp] theorem State.setSel_now : (s.setSel x).now = s.now := rfl
@[simp] theorem State.setSel_lines : (s.setSel x).lines = s.lines := rfl
@[simp] theorem State.setSel_mode : (s.setSel x).mode = s.mode := rfl
@[simp] theorem State.setSel_cfg : (s.setSel x).cfg = s.cfg := rfl
@[simp] theorem State.setSel_digest : (s.setSel x).digest = s.digest := rfl
@[simp] theorem State.setSel_band : (s.setSel x).band = s.band := rfl
@[simp] theorem State.setSel_bus : (s.setSel x).bus = s.bus := rfl
@[simp] theorem State.setSel_learned : (s.setSel x).learned = s.learned := rfl
@[simp] theorem State.setSel_tracker : (s.setSel x).tracker = s.tracker := rfl
@[simp] theorem State.setSel_arb : (s.setSel x).arb = s.arb := rfl
@[simp] theorem State.setSel_sel : (s.setSel x).sel = x := rfl
@[simp] theorem State.setSel_tok : (s.setSel x).tok = s.tok := rfl
@[simp] theorem State.setSel_bids : (s.setSel x).bids = s.bids := rfl
@[simp] theorem State.setSel_gov : (s.setSel x).gov = s.gov := rfl
@[simp] theorem State.setSel_drv : (s.setSel x).drv = s.drv := rfl
@[simp] theorem State.setSel_key : (s.setSel x).key = s.key := rfl
@[simp] theorem State.setSel_rep : (s.setSel x).rep = s.rep := rfl
@[simp] theorem State.setSel_host : (s.setSel x).host = s.host := rfl

end sel

section tok

variable (x : Tokens)

@[simp] theorem State.setTok_pending : (s.setTok x).pending = s.pending := rfl
@[simp] theorem State.setTok_freeIndex : (s.setTok x).freeIndex = s.freeIndex := rfl
@[simp] theorem State.setTok_node : (s.setTok x).node = s.node := rfl
@[simp] theorem State.setTok_inReset : (s.setTok x).inReset = s.inReset := rfl
@[simp] theorem State.setTok_now : (s.setTok x).now = s.now := rfl
@[simp] theorem State.setTok_lines : (s.setTok x).lines = s.lines := rfl
@[simp] theorem State.setTok_mode : (s.setTok x).mode = s.mode := rfl
@[simp] theorem State.setTok_cfg : (s.setTok x).cfg = s.cfg := rfl
@[simp] theorem State.setTok_digest : (s.setTok x).digest = s.digest := rfl
@[simp] theorem State.setTok_band : (s.setTok x).band = s.band := rfl
@[simp] theorem State.setTok_bus : (s.setTok x).bus = s.bus := rfl
@[simp] theorem State.setTok_learned : (s.setTok x).learned = s.learned := rfl
@[simp] theorem State.setTok_tracker : (s.setTok x).tracker = s.tracker := rfl
@[simp] theorem State.setTok_arb : (s.setTok x).arb = s.arb := rfl
@[simp] theorem State.setTok_sel : (s.setTok x).sel = s.sel := rfl
@[simp] theorem State.setTok_tok : (s.setTok x).tok = x := rfl
@[simp] theorem State.setTok_bids : (s.setTok x).bids = s.bids := rfl
@[simp] theorem State.setTok_gov : (s.setTok x).gov = s.gov := rfl
@[simp] theorem State.setTok_drv : (s.setTok x).drv = s.drv := rfl
@[simp] theorem State.setTok_key : (s.setTok x).key = s.key := rfl
@[simp] theorem State.setTok_rep : (s.setTok x).rep = s.rep := rfl
@[simp] theorem State.setTok_host : (s.setTok x).host = s.host := rfl

end tok

section bids

variable (x : Vector (Option Bid) 8)

@[simp] theorem State.setBids_pending : (s.setBids x).pending = s.pending := rfl
@[simp] theorem State.setBids_freeIndex : (s.setBids x).freeIndex = s.freeIndex := rfl
@[simp] theorem State.setBids_node : (s.setBids x).node = s.node := rfl
@[simp] theorem State.setBids_inReset : (s.setBids x).inReset = s.inReset := rfl
@[simp] theorem State.setBids_now : (s.setBids x).now = s.now := rfl
@[simp] theorem State.setBids_lines : (s.setBids x).lines = s.lines := rfl
@[simp] theorem State.setBids_mode : (s.setBids x).mode = s.mode := rfl
@[simp] theorem State.setBids_cfg : (s.setBids x).cfg = s.cfg := rfl
@[simp] theorem State.setBids_digest : (s.setBids x).digest = s.digest := rfl
@[simp] theorem State.setBids_band : (s.setBids x).band = s.band := rfl
@[simp] theorem State.setBids_bus : (s.setBids x).bus = s.bus := rfl
@[simp] theorem State.setBids_learned : (s.setBids x).learned = s.learned := rfl
@[simp] theorem State.setBids_tracker : (s.setBids x).tracker = s.tracker := rfl
@[simp] theorem State.setBids_arb : (s.setBids x).arb = s.arb := rfl
@[simp] theorem State.setBids_sel : (s.setBids x).sel = s.sel := rfl
@[simp] theorem State.setBids_tok : (s.setBids x).tok = s.tok := rfl
@[simp] theorem State.setBids_bids : (s.setBids x).bids = x := rfl
@[simp] theorem State.setBids_gov : (s.setBids x).gov = s.gov := rfl
@[simp] theorem State.setBids_drv : (s.setBids x).drv = s.drv := rfl
@[simp] theorem State.setBids_key : (s.setBids x).key = s.key := rfl
@[simp] theorem State.setBids_rep : (s.setBids x).rep = s.rep := rfl
@[simp] theorem State.setBids_host : (s.setBids x).host = s.host := rfl

end bids

section gov

variable (x : Governor)

@[simp] theorem State.setGov_pending : (s.setGov x).pending = s.pending := rfl
@[simp] theorem State.setGov_freeIndex : (s.setGov x).freeIndex = s.freeIndex := rfl
@[simp] theorem State.setGov_node : (s.setGov x).node = s.node := rfl
@[simp] theorem State.setGov_inReset : (s.setGov x).inReset = s.inReset := rfl
@[simp] theorem State.setGov_now : (s.setGov x).now = s.now := rfl
@[simp] theorem State.setGov_lines : (s.setGov x).lines = s.lines := rfl
@[simp] theorem State.setGov_mode : (s.setGov x).mode = s.mode := rfl
@[simp] theorem State.setGov_cfg : (s.setGov x).cfg = s.cfg := rfl
@[simp] theorem State.setGov_digest : (s.setGov x).digest = s.digest := rfl
@[simp] theorem State.setGov_band : (s.setGov x).band = s.band := rfl
@[simp] theorem State.setGov_bus : (s.setGov x).bus = s.bus := rfl
@[simp] theorem State.setGov_learned : (s.setGov x).learned = s.learned := rfl
@[simp] theorem State.setGov_tracker : (s.setGov x).tracker = s.tracker := rfl
@[simp] theorem State.setGov_arb : (s.setGov x).arb = s.arb := rfl
@[simp] theorem State.setGov_sel : (s.setGov x).sel = s.sel := rfl
@[simp] theorem State.setGov_tok : (s.setGov x).tok = s.tok := rfl
@[simp] theorem State.setGov_bids : (s.setGov x).bids = s.bids := rfl
@[simp] theorem State.setGov_gov : (s.setGov x).gov = x := rfl
@[simp] theorem State.setGov_drv : (s.setGov x).drv = s.drv := rfl
@[simp] theorem State.setGov_key : (s.setGov x).key = s.key := rfl
@[simp] theorem State.setGov_rep : (s.setGov x).rep = s.rep := rfl
@[simp] theorem State.setGov_host : (s.setGov x).host = s.host := rfl

end gov

section drv

variable (x : Drive)

@[simp] theorem State.setDrv_pending : (s.setDrv x).pending = s.pending := rfl
@[simp] theorem State.setDrv_freeIndex : (s.setDrv x).freeIndex = s.freeIndex := rfl
@[simp] theorem State.setDrv_node : (s.setDrv x).node = s.node := rfl
@[simp] theorem State.setDrv_inReset : (s.setDrv x).inReset = s.inReset := rfl
@[simp] theorem State.setDrv_now : (s.setDrv x).now = s.now := rfl
@[simp] theorem State.setDrv_lines : (s.setDrv x).lines = s.lines := rfl
@[simp] theorem State.setDrv_mode : (s.setDrv x).mode = s.mode := rfl
@[simp] theorem State.setDrv_cfg : (s.setDrv x).cfg = s.cfg := rfl
@[simp] theorem State.setDrv_digest : (s.setDrv x).digest = s.digest := rfl
@[simp] theorem State.setDrv_band : (s.setDrv x).band = s.band := rfl
@[simp] theorem State.setDrv_bus : (s.setDrv x).bus = s.bus := rfl
@[simp] theorem State.setDrv_learned : (s.setDrv x).learned = s.learned := rfl
@[simp] theorem State.setDrv_tracker : (s.setDrv x).tracker = s.tracker := rfl
@[simp] theorem State.setDrv_arb : (s.setDrv x).arb = s.arb := rfl
@[simp] theorem State.setDrv_sel : (s.setDrv x).sel = s.sel := rfl
@[simp] theorem State.setDrv_tok : (s.setDrv x).tok = s.tok := rfl
@[simp] theorem State.setDrv_bids : (s.setDrv x).bids = s.bids := rfl
@[simp] theorem State.setDrv_gov : (s.setDrv x).gov = s.gov := rfl
@[simp] theorem State.setDrv_drv : (s.setDrv x).drv = x := rfl
@[simp] theorem State.setDrv_key : (s.setDrv x).key = s.key := rfl
@[simp] theorem State.setDrv_rep : (s.setDrv x).rep = s.rep := rfl
@[simp] theorem State.setDrv_host : (s.setDrv x).host = s.host := rfl

end drv

section key

variable (x : Keying)

@[simp] theorem State.setKey_pending : (s.setKey x).pending = s.pending := rfl
@[simp] theorem State.setKey_freeIndex : (s.setKey x).freeIndex = s.freeIndex := rfl
@[simp] theorem State.setKey_node : (s.setKey x).node = s.node := rfl
@[simp] theorem State.setKey_inReset : (s.setKey x).inReset = s.inReset := rfl
@[simp] theorem State.setKey_now : (s.setKey x).now = s.now := rfl
@[simp] theorem State.setKey_lines : (s.setKey x).lines = s.lines := rfl
@[simp] theorem State.setKey_mode : (s.setKey x).mode = s.mode := rfl
@[simp] theorem State.setKey_cfg : (s.setKey x).cfg = s.cfg := rfl
@[simp] theorem State.setKey_digest : (s.setKey x).digest = s.digest := rfl
@[simp] theorem State.setKey_band : (s.setKey x).band = s.band := rfl
@[simp] theorem State.setKey_bus : (s.setKey x).bus = s.bus := rfl
@[simp] theorem State.setKey_learned : (s.setKey x).learned = s.learned := rfl
@[simp] theorem State.setKey_tracker : (s.setKey x).tracker = s.tracker := rfl
@[simp] theorem State.setKey_arb : (s.setKey x).arb = s.arb := rfl
@[simp] theorem State.setKey_sel : (s.setKey x).sel = s.sel := rfl
@[simp] theorem State.setKey_tok : (s.setKey x).tok = s.tok := rfl
@[simp] theorem State.setKey_bids : (s.setKey x).bids = s.bids := rfl
@[simp] theorem State.setKey_gov : (s.setKey x).gov = s.gov := rfl
@[simp] theorem State.setKey_drv : (s.setKey x).drv = s.drv := rfl
@[simp] theorem State.setKey_key : (s.setKey x).key = x := rfl
@[simp] theorem State.setKey_rep : (s.setKey x).rep = s.rep := rfl
@[simp] theorem State.setKey_host : (s.setKey x).host = s.host := rfl

end key

section rep

variable (x : Reporting)

@[simp] theorem State.setRep_pending : (s.setRep x).pending = s.pending := rfl
@[simp] theorem State.setRep_freeIndex : (s.setRep x).freeIndex = s.freeIndex := rfl
@[simp] theorem State.setRep_node : (s.setRep x).node = s.node := rfl
@[simp] theorem State.setRep_inReset : (s.setRep x).inReset = s.inReset := rfl
@[simp] theorem State.setRep_now : (s.setRep x).now = s.now := rfl
@[simp] theorem State.setRep_lines : (s.setRep x).lines = s.lines := rfl
@[simp] theorem State.setRep_mode : (s.setRep x).mode = s.mode := rfl
@[simp] theorem State.setRep_cfg : (s.setRep x).cfg = s.cfg := rfl
@[simp] theorem State.setRep_digest : (s.setRep x).digest = s.digest := rfl
@[simp] theorem State.setRep_band : (s.setRep x).band = s.band := rfl
@[simp] theorem State.setRep_bus : (s.setRep x).bus = s.bus := rfl
@[simp] theorem State.setRep_learned : (s.setRep x).learned = s.learned := rfl
@[simp] theorem State.setRep_tracker : (s.setRep x).tracker = s.tracker := rfl
@[simp] theorem State.setRep_arb : (s.setRep x).arb = s.arb := rfl
@[simp] theorem State.setRep_sel : (s.setRep x).sel = s.sel := rfl
@[simp] theorem State.setRep_tok : (s.setRep x).tok = s.tok := rfl
@[simp] theorem State.setRep_bids : (s.setRep x).bids = s.bids := rfl
@[simp] theorem State.setRep_gov : (s.setRep x).gov = s.gov := rfl
@[simp] theorem State.setRep_drv : (s.setRep x).drv = s.drv := rfl
@[simp] theorem State.setRep_key : (s.setRep x).key = s.key := rfl
@[simp] theorem State.setRep_rep : (s.setRep x).rep = x := rfl
@[simp] theorem State.setRep_host : (s.setRep x).host = s.host := rfl

end rep

section host

variable (x : HostPort)

@[simp] theorem State.setHost_pending : (s.setHost x).pending = s.pending := rfl
@[simp] theorem State.setHost_freeIndex : (s.setHost x).freeIndex = s.freeIndex := rfl
@[simp] theorem State.setHost_node : (s.setHost x).node = s.node := rfl
@[simp] theorem State.setHost_inReset : (s.setHost x).inReset = s.inReset := rfl
@[simp] theorem State.setHost_now : (s.setHost x).now = s.now := rfl
@[simp] theorem State.setHost_lines : (s.setHost x).lines = s.lines := rfl
@[simp] theorem State.setHost_mode : (s.setHost x).mode = s.mode := rfl
@[simp] theorem State.setHost_cfg : (s.setHost x).cfg = s.cfg := rfl
@[simp] theorem State.setHost_digest : (s.setHost x).digest = s.digest := rfl
@[simp] theorem State.setHost_band : (s.setHost x).band = s.band := rfl
@[simp] theorem State.setHost_bus : (s.setHost x).bus = s.bus := rfl
@[simp] theorem State.setHost_learned : (s.setHost x).learned = s.learned := rfl
@[simp] theorem State.setHost_tracker : (s.setHost x).tracker = s.tracker := rfl
@[simp] theorem State.setHost_arb : (s.setHost x).arb = s.arb := rfl
@[simp] theorem State.setHost_sel : (s.setHost x).sel = s.sel := rfl
@[simp] theorem State.setHost_tok : (s.setHost x).tok = s.tok := rfl
@[simp] theorem State.setHost_bids : (s.setHost x).bids = s.bids := rfl
@[simp] theorem State.setHost_gov : (s.setHost x).gov = s.gov := rfl
@[simp] theorem State.setHost_drv : (s.setHost x).drv = s.drv := rfl
@[simp] theorem State.setHost_key : (s.setHost x).key = s.key := rfl
@[simp] theorem State.setHost_rep : (s.setHost x).rep = s.rep := rfl
@[simp] theorem State.setHost_host : (s.setHost x).host = x := rfl

end host

end Sys2Proof.Machine
end

