-- ==== Sys2Proof/Laws/Frames.lean ====
section
/-! SUPPORT. Which blocks each shared operation can change. The lists are closed under composition, so that a command's frame
follows from the frames of the operations it calls. -/

namespace Sys2Proof.Machine

/-! ### The relation -/

theorem ChangesOnly.refl {bs : List Block} {s : State} : ChangesOnly bs s s := by
  exact ⟨fun b _ => by cases b <;> rfl⟩

theorem ChangesOnly.trans {bs : List Block} {s t u : State} (h : ChangesOnly bs s t) (h' : ChangesOnly bs t u) :
    ChangesOnly bs s u := by
  refine ⟨fun b hb => ?_⟩
  have h := h.frame b hb
  have h' := h'.frame b hb
  cases b <;> exact h'.trans h

theorem ChangesOnly.mono {as bs : List Block} {s t : State} (h : ChangesOnly as s t) (sub : ∀ b, b ∈ as → b ∈ bs) :
    ChangesOnly bs s t := ⟨fun b hb => h.frame b fun ha => hb (sub b ha)⟩

/-- A change of `as` followed by a change of `bs` is a change of any list that holds both. -/
theorem ChangesOnly.step {as bs cs : List Block} {s t u : State} (h : ChangesOnly as s t) (h' : ChangesOnly bs t u)
    (ha : ∀ b, b ∈ as → b ∈ cs) (hb : ∀ b, b ∈ bs → b ∈ cs) : ChangesOnly cs s u :=
  (h.mono ha).trans (h'.mono hb)

theorem ChangesOnly.ite {bs : List Block} {c : Prop} [Decidable c] {s a b : State} (ha : ChangesOnly bs s a)
    (hb : ChangesOnly bs s b) : ChangesOnly bs s (if c then a else b) := by
  split
  · exact ha
  · exact hb

theorem ChangesOnly.foldl {α : Type} {bs : List Block} {f : State → α → State}
    (h : ∀ s x, ChangesOnly bs s (f s x)) (l : List α) (s : State) : ChangesOnly bs s (l.foldl f s) := by
  induction l generalizing s with
  | nil => exact .refl
  | cons x l ih => exact (h s x).trans (ih _)

/-! ### The updates -/

section
variable (s : State)

theorem setPending_frame (x : List Instr) : ChangesOnly [.pending] s (s.setPending x) := by
  exact ⟨fun b hb => by cases b <;> first | rfl | exact absurd (by simp) hb⟩
theorem setFreeIndex_frame (x : Nat) : ChangesOnly [.freeIndex] s (s.setFreeIndex x) := by
  exact ⟨fun b hb => by cases b <;> first | rfl | exact absurd (by simp) hb⟩
theorem setInReset_frame (x : Bool) : ChangesOnly [.inReset] s (s.setInReset x) := by
  exact ⟨fun b hb => by cases b <;> first | rfl | exact absurd (by simp) hb⟩
theorem setNow_frame (x : Tick) : ChangesOnly [.now] s (s.setNow x) := by
  exact ⟨fun b hb => by cases b <;> first | rfl | exact absurd (by simp) hb⟩
theorem setLines_frame (x : Lines) : ChangesOnly [.lines] s (s.setLines x) := by
  exact ⟨fun b hb => by cases b <;> first | rfl | exact absurd (by simp) hb⟩
theorem setMode_frame (x : Mode) : ChangesOnly [.mode] s (s.setMode x) := by
  exact ⟨fun b hb => by cases b <;> first | rfl | exact absurd (by simp) hb⟩
theorem setCfg_frame (x : Store) : ChangesOnly [.cfg] s (s.setCfg x) := by
  exact ⟨fun b hb => by cases b <;> first | rfl | exact absurd (by simp) hb⟩
theorem setDigest_frame (x : Option (BitVec 16)) : ChangesOnly [.digest] s (s.setDigest x) := by
  exact ⟨fun b hb => by cases b <;> first | rfl | exact absurd (by simp) hb⟩
theorem setBand_frame (x : BandDecoder) : ChangesOnly [.band] s (s.setBand x) := by
  exact ⟨fun b hb => by cases b <;> first | rfl | exact absurd (by simp) hb⟩
theorem setBus_frame (x : Bus) : ChangesOnly [.bus] s (s.setBus x) := by
  exact ⟨fun b hb => by cases b <;> first | rfl | exact absurd (by simp) hb⟩
theorem setLearned_frame (x : Vector Learned 8) : ChangesOnly [.learned] s (s.setLearned x) := by
  exact ⟨fun b hb => by cases b <;> first | rfl | exact absurd (by simp) hb⟩
theorem setTracker_frame (x : Tracker) : ChangesOnly [.tracker] s (s.setTracker x) := by
  exact ⟨fun b hb => by cases b <;> first | rfl | exact absurd (by simp) hb⟩
theorem setArb_frame (x : Arbiter) : ChangesOnly [.arb] s (s.setArb x) := by
  exact ⟨fun b hb => by cases b <;> first | rfl | exact absurd (by simp) hb⟩
theorem setSel_frame (x : SelectionUnit) : ChangesOnly [.sel] s (s.setSel x) := by
  exact ⟨fun b hb => by cases b <;> first | rfl | exact absurd (by simp) hb⟩
theorem setTok_frame (x : Tokens) : ChangesOnly [.tok] s (s.setTok x) := by
  exact ⟨fun b hb => by cases b <;> first | rfl | exact absurd (by simp) hb⟩
theorem setBids_frame (x : Vector (Option Bid) 8) : ChangesOnly [.bids] s (s.setBids x) := by
  exact ⟨fun b hb => by cases b <;> first | rfl | exact absurd (by simp) hb⟩
theorem setGov_frame (x : Governor) : ChangesOnly [.gov] s (s.setGov x) := by
  exact ⟨fun b hb => by cases b <;> first | rfl | exact absurd (by simp) hb⟩
theorem setDrv_frame (x : Drive) : ChangesOnly [.drv] s (s.setDrv x) := by
  exact ⟨fun b hb => by cases b <;> first | rfl | exact absurd (by simp) hb⟩
theorem setKey_frame (x : Keying) : ChangesOnly [.key] s (s.setKey x) := by
  exact ⟨fun b hb => by cases b <;> first | rfl | exact absurd (by simp) hb⟩
theorem setRep_frame (x : Reporting) : ChangesOnly [.rep] s (s.setRep x) := by
  exact ⟨fun b hb => by cases b <;> first | rfl | exact absurd (by simp) hb⟩
theorem setHost_frame (x : HostPort) : ChangesOnly [.host] s (s.setHost x) := by
  exact ⟨fun b hb => by cases b <;> first | rfl | exact absurd (by simp) hb⟩

end


section
variable (s : State)

/-! ### Records, counters, notices, faults -/

theorem setPeer_frame (p : Node) (r : Peer) : ChangesOnly [.tracker] s (s.setPeer p r) := setTracker_frame ..
theorem setPort_frame (p : Port) (r : PortRecord) : ChangesOnly [.arb] s (s.setPort p r) := setArb_frame ..
theorem setSelection_frame (name : SelName) (r : Selection) : ChangesOnly [.sel] s (s.setSelection name r) := by
  cases name <;> exact setSel_frame ..
theorem removeBid_frame (p : Node) : ChangesOnly [.bids] s (s.removeBid p) := setBids_frame ..
theorem count_frame (c : Counter) (k : Nat) : ChangesOnly [.rep] s (s.count c k) := setRep_frame ..
theorem raise_frame (n : Notice) : ChangesOnly [.rep] s (s.raise n) := setRep_frame ..
theorem recordFault_frame (p : Node) (k : FaultKind) (fk : FrameKind) (q : Byte) :
    ChangesOnly [.rep] s (s.recordFault p k fk q) := by
  unfold State.recordFault
  split
  · exact (setRep_frame ..).trans (raise_frame ..)
  · exact setRep_frame ..

/-! ### Bus controller and catalogue -/

theorem rejectOne_frame : ChangesOnly [.rep] s (rejectOne s) := count_frame ..
theorem collect_frame (framing : Bool) (b : Byte) : ChangesOnly queueBlocks s (collect s framing b) := by
  unfold collect
  split
  · split
    · exact (setBus_frame ..).step (rejectOne_frame _) (by decide) (by decide)
    · dsimp only
      split <;> exact (setBus_frame ..).mono (by decide)
  · split <;> exact (setBus_frame ..).mono (by decide)
theorem busyBus_frame : ChangesOnly [.bus] s (busyBus s) := setBus_frame ..
theorem closeStray_frame : ChangesOnly queueBlocks s (closeStray s) :=
  .ite .refl ((setBus_frame ..).step (rejectOne_frame _) (by decide) (by decide))
theorem admitFrame_frame (f : WireFrame) : ChangesOnly queueBlocks s (admitFrame s f) := by
  unfold admitFrame
  refine .ite .refl ?_
  split
  · exact .ite .refl ((rejectOne_frame _).mono (by decide))
  · exact .ite ((setBus_frame ..).step (closeStray_frame _) (by decide) (by decide)) .refl
theorem closeFrame_frame (f : WireFrame) : ChangesOnly queueBlocks s (closeFrame s f) :=
  (admitFrame_frame ..).step (setBus_frame ..) (by decide) (by decide)
theorem countIdle_frame : ChangesOnly [.bus] s (countIdle s) := .ite (setBus_frame ..) .refl
theorem enqueue_frame (c : Content) (d : Byte) (o : Bool) : ChangesOnly queueBlocks s (enqueue s c d o).1 := by
  unfold enqueue
  have h : ∀ (b : Bool) (u : State), ChangesOnly [.rep] u (if b then (u.count .queueOverruns 1).raise .overrun else u) :=
    fun _ _ => .ite ((count_frame ..).trans (raise_frame ..)) .refl
  exact (setBus_frame ..).step (h ..) (by decide) (by decide)
theorem announce_frame (c : Content) : ChangesOnly queueBlocks s (announce s c) := enqueue_frame ..
theorem sendTo_frame (n : Node) (c : Content) : ChangesOnly queueBlocks s (sendTo s n c) := enqueue_frame ..
theorem disown_frame (p : QueuedFrame → Bool) : ChangesOnly [.bus] s (disown s p) := setBus_frame ..
theorem callCatalogue_frame : ChangesOnly queueBlocks s (callCatalogue s) := .ite .refl (announce_frame ..)
theorem learn_frame (p : Node) (ds : List Descriptor) : ChangesOnly [.learned] s (learn s p ds) := setLearned_frame ..

/-! ### Drive merger and reporting -/

theorem recompute_frame : ChangesOnly [.drv] s (recompute s) := setDrv_frame ..
theorem foldGuards_frame : ChangesOnly [.drv] s (foldGuards s) := setDrv_frame ..
theorem evalAlert_frame : ChangesOnly [.rep] s (evalAlert s) := setRep_frame ..
theorem evalLevels_frame : ChangesOnly [.rep] s (evalLevels s) := (setRep_frame ..).trans (evalAlert_frame _)
theorem evalOutputs_frame : ChangesOnly [.key, .rep] s (evalOutputs s) :=
  (setKey_frame ..).step (evalLevels_frame _) (by decide) (by decide)

/-! ### Answers to the selection unit -/

theorem takeGrant_frame (a : Antenna) (use : Use) (n : Nat) : ChangesOnly [.sel] s (takeGrant s a use n).1 := by
  unfold takeGrant
  dsimp only
  split
  · split
    · exact setSelection_frame ..
    · exact .refl
  · exact .refl
theorem takeWait_frame (a : Antenna) (n : Nat) : ChangesOnly [.sel] s (takeWait s a n) := setSel_frame ..
theorem takeRefuse_frame (a : Antenna) (r : RefuseReason) : ChangesOnly [.sel] s (takeRefuse s a r) := setSel_frame ..
theorem takeLoss_frame (a : Antenna) (use : Use) (c : FreeCause) : ChangesOnly [.sel] s (takeLoss s a use c) :=
  .ite (setSelection_frame ..) .refl
theorem homeRestarted_frame (h : Node) : ChangesOnly [.sel] s (homeRestarted s h) := setSel_frame ..
theorem homeGone_frame (h : Node) : ChangesOnly [.sel] s (homeGone s h) := setSel_frame ..

/-! ### Arbiter -/

theorem answerWait_frame (n : Node) (p : Port) (k : Nat) : ChangesOnly arbBlocks s (answerWait s n p k) :=
  .ite ((takeWait_frame ..).mono (by decide)) ((sendTo_frame ..).mono (by decide))
theorem answerRefuse_frame (n : Node) (p : Port) (r : RefuseReason) : ChangesOnly arbBlocks s (answerRefuse s n p r) :=
  .ite ((takeRefuse_frame ..).mono (by decide)) ((sendTo_frame ..).mono (by decide))
theorem answerFree_frame (n : Node) (p : Port) (use : Use) (c : FreeCause) :
    ChangesOnly arbBlocks s (answerFree s n p use c) :=
  .ite ((takeLoss_frame ..).mono (by decide)) ((sendTo_frame ..).mono (by decide))
theorem answerFrees_frame (n : Node) (p : Port) (uses : Uses) (c : FreeCause) :
    ChangesOnly arbBlocks s (answerFrees s n p uses c) := .foldl (fun _ _ => answerFree_frame ..) _ _
theorem updateHolder_frame (n : Node) (p : Port) (f : Holder → Holder) : ChangesOnly [.arb] s (updateHolder s n p f) :=
  setPort_frame ..
theorem removeHolder_frame (n : Node) (p : Port) : ChangesOnly [.arb, .bus] s (removeHolder s n p) :=
  (setPort_frame ..).step (disown_frame ..) (by decide) (by decide)
theorem dropUse_frame (n : Node) (p : Port) (use : Use) : ChangesOnly arbBlocks s (dropUse s n p use).1 := by
  unfold dropUse
  split
  · exact .refl
  · split
    · exact .refl
    · split
      · exact (removeHolder_frame ..).step (recompute_frame _) (by decide) (by decide)
      · exact (updateHolder_frame ..).mono (by decide)
theorem giveGrant_frame (n : Node) (p : Port) (use : Use) (k : Nat) : ChangesOnly arbBlocks s (giveGrant s n p use k) := by
  unfold giveGrant
  split
  · dsimp only
    split
    · exact (takeGrant_frame ..).mono (by decide)
    · exact (takeGrant_frame ..).step (dropUse_frame ..) (by decide) (by decide)
  · dsimp only
    split
    · exact (enqueue_frame ..).step (updateHolder_frame ..) (by decide) (by decide)
    · exact (enqueue_frame ..).mono (by decide)
theorem makeHolder_frame (n : Node) (p : Port) (uses : Uses) : ChangesOnly arbBlocks s (makeHolder s n p uses) := by
  unfold makeHolder
  exact ((setPort_frame ..).step (recompute_frame _) (by decide) (by decide)).trans
    (.foldl (fun _ _ => giveGrant_frame ..) _ _)
theorem removeWaiter_frame (n : Node) (p : Port) : ChangesOnly [.arb] s (removeWaiter s n p) := setPort_frame ..
theorem offer_frame (ports : List Port) (k : Nat) : ChangesOnly arbBlocks s (offer ports k s) := by
  induction k generalizing s with
  | zero => exact .refl
  | succ k ih =>
    unfold offer
    split
    · exact .refl
    · exact ((removeWaiter_frame ..).step (makeHolder_frame ..) (by decide) (by decide)).trans (ih _)
theorem reoffer_frame (p : Port) : ChangesOnly arbBlocks s (reoffer s p) := offer_frame ..
theorem reofferFreed_frame (before : State) : ChangesOnly arbBlocks s (reofferFreed before s) :=
  .foldl (fun _ _ => reoffer_frame ..) _ _
theorem regrant_frame (n : Node) (p : Port) (use : Use) : ChangesOnly arbBlocks s (regrant s n p use) :=
  ((updateHolder_frame ..).trans (setPort_frame ..)).step (giveGrant_frame ..) (by decide) (by decide)
theorem rewait_frame (n : Node) (p : Port) (use : Use) : ChangesOnly arbBlocks s (rewait s n p use) :=
  (setPort_frame ..).step (answerWait_frame ..) (by decide) (by decide)
theorem makeWaiter_frame (n : Node) (p : Port) (use : Use) (c : Class) : ChangesOnly arbBlocks s (makeWaiter s n p use c) :=
  ((setPort_frame ..).trans (setArb_frame ..)).step (answerWait_frame ..) (by decide) (by decide)
theorem grantAsk_frame (n : Node) (p : Port) (use : Use) : ChangesOnly arbBlocks s (grantAsk s n p use) := by
  unfold grantAsk
  exact .ite ((makeHolder_frame ..).trans (reoffer_frame ..)) (makeHolder_frame ..)
theorem judgeAsk_frame (n : Node) (p : Port) (use : Use) (b : Band) (c : Class) :
    ChangesOnly arbBlocks s (judgeAsk s n p use b c) := by
  unfold judgeAsk
  split
  · exact answerRefuse_frame ..
  · exact .ite (regrant_frame ..) (.ite (rewait_frame ..) (.ite (grantAsk_frame ..) (makeWaiter_frame ..)))
theorem dropWaitUse_frame (n : Node) (p : Port) (use : Use) : ChangesOnly [.arb] s (dropWaitUse s n p use) :=
  setPort_frame ..
theorem judgeFree_frame (n : Node) (p : Port) (use : Use) : ChangesOnly arbBlocks s (judgeFree s n p use) := by
  unfold judgeFree
  split
  · exact .ite (.ite ((setPort_frame ..).mono (by decide)) .refl) (dropUse_frame ..)
  · exact .ite ((dropWaitUse_frame ..).mono (by decide)) .refl
theorem revokeAll_frame (p : Port) : ChangesOnly arbBlocks s (revokeAll s p) := by
  unfold revokeAll
  refine ChangesOnly.trans (t := (s.port p).holders.foldl
    (fun s h => answerFrees (removeHolder s h.node p) h.node p h.uses .revoke) s) ?_ ?_
  · exact .foldl (fun _ _ => (removeHolder_frame ..).step (answerFrees_frame ..) (by decide) (by decide)) _ _
  · exact (setPort_frame ..).step (recompute_frame _) (by decide) (by decide)
theorem releaseAll_frame (p : Port) : ChangesOnly arbBlocks s (releaseAll s p) := by
  unfold releaseAll
  have h : ∀ (uses : Uses) (u : State) (hs : List Holder), ChangesOnly arbBlocks u (hs.foldl
      (fun s h => uses.toList.foldl (fun s use => (dropUse s h.node p use).1) s) u) :=
    fun _ _ _ => .foldl (fun _ _ => .foldl (fun _ _ => dropUse_frame ..) _ _) _ _
  exact ((setPort_frame ..).mono (by decide)).trans (h ..)
theorem carryOutAt_frame (p : Port) : ChangesOnly arbBlocks s (carryOutAt s p) := by
  unfold carryOutAt
  exact .ite (.ite (revokeAll_frame ..) (releaseAll_frame ..)) .refl
theorem endDeferrals_frame : ChangesOnly arbBlocks s (endDeferrals s) := .foldl (fun _ _ => carryOutAt_frame ..) _ _
theorem carryOutDeferred_frame : ChangesOnly arbBlocks s (carryOutDeferred s) :=
  (endDeferrals_frame _).trans (reofferFreed_frame ..)
theorem refuseWaiters_frame (p : Port) : ChangesOnly arbBlocks s (refuseWaiters s p) := by
  unfold refuseWaiters
  exact ((setPort_frame ..).mono (by decide)).trans (.foldl (fun _ _ => answerRefuse_frame ..) _ _)
theorem revokeHolders_frame (p : Port) : ChangesOnly arbBlocks s (revokeHolders s p) := by
  unfold revokeHolders
  exact .foldl (fun _ _ => .ite ((setPort_frame ..).mono (by decide))
    ((removeHolder_frame ..).step (answerFrees_frame ..) (by decide) (by decide))) _ _
theorem disablePort_frame (p : Port) : ChangesOnly arbBlocks s (disablePort s p) := by
  unfold disablePort
  have h : ChangesOnly arbBlocks s
      (revokeHolders (refuseWaiters (s.setPort p { s.port p with disabled := true }) p) p) :=
    (((setPort_frame ..).mono (by decide)).trans (refuseWaiters_frame ..)).trans (revokeHolders_frame ..)
  exact .ite ((h.step (recompute_frame _) (by decide) (by decide)).trans (reoffer_frame ..)) h
theorem releaseOrphan_frame (n : Node) (p : Port) (h : Holder) (q : Byte) :
    ChangesOnly arbBlocks s (releaseOrphan s n p h q) := by
  unfold releaseOrphan
  have h : ChangesOnly arbBlocks s (answerFrees (removeHolder s n p) n p h.uses .reconcile) :=
    (removeHolder_frame ..).step (answerFrees_frame ..) (by decide) (by decide)
  exact (h.trans ((recordFault_frame ..).mono (by decide))).trans ((recompute_frame _).mono (by decide))
theorem reconcilePort_frame (n : Node) (r : Roll) (q : Byte) (p : Port) :
    ChangesOnly arbBlocks s (reconcilePort n r q s p) := by
  unfold reconcilePort
  split
  · exact .refl
  · have hu : ∀ f, ChangesOnly arbBlocks s (updateHolder s n p f) := fun f => (updateHolder_frame ..).mono (by decide)
    exact .ite .refl (.ite (hu _) (.ite (releaseOrphan_frame ..) (.ite .refl (.ite (hu _) (releaseOrphan_frame ..)))))
theorem reconcile_frame (n : Node) (r : Roll) (q : Byte) : ChangesOnly arbBlocks s (reconcile s n r q) :=
  .foldl (fun _ _ => reconcilePort_frame ..) _ _
theorem answerClaim_frame (n : Node) (a : Option Antenna) (use : Use) :
    ChangesOnly queueBlocks s (answerClaim s n a use) := by
  unfold answerClaim
  split
  · exact .refl
  · exact .ite (sendTo_frame ..) .refl
theorem answerClaims_frame (n : Node) (r : Roll) : ChangesOnly queueBlocks s (answerClaims s n r) :=
  (answerClaim_frame ..).trans (answerClaim_frame ..)
theorem removeWaits_frame (n : Node) : ChangesOnly [.arb] s (removeWaits s n) :=
  .foldl (fun _ _ => removeWaiter_frame ..) _ _
theorem releasePeer_frame (n : Node) : ChangesOnly arbBlocks s (releasePeer s n) := by
  unfold releasePeer
  have h : ChangesOnly arbBlocks s (removeWaits ((heldPorts s n).foldl (fun s p => removeHolder s n p) s) n) :=
    (ChangesOnly.foldl (fun _ _ => removeHolder_frame ..) _ _).step (removeWaits_frame ..) (by decide) (by decide)
  exact .ite h ((h.step (recompute_frame _) (by decide) (by decide)).trans (.foldl (fun _ _ => reoffer_frame ..) _ _))
theorem grantReported_frame (n : Node) (p : Port) : ChangesOnly [.arb] s (grantReported s n p) := updateHolder_frame ..

/-! ### Token unit -/

theorem governorCheck_frame : ChangesOnly [.rep] s (governorCheck s).1 := by
  unfold governorCheck
  split
  · exact .refl
  · split
    · exact (raise_frame ..).trans (count_frame ..)
    · exact .refl
  · split
    · exact raise_frame ..
    · exact .refl
theorem governorCommit_frame (b : Band) : ChangesOnly [.gov, .rep] s (governorCommit s b) := by
  unfold governorCommit
  exact .ite ((setGov_frame ..).step (count_frame ..) (by decide) (by decide)) ((setGov_frame ..).mono (by decide))
theorem freeTokens_frame : ChangesOnly [.tok, .bus] s (freeTokens s) :=
  (setTok_frame ..).step (disown_frame ..) (by decide) (by decide)
theorem dropTokens_frame : ChangesOnly [.tok, .bus, .rep] s (dropTokens s) := by
  unfold dropTokens
  split
  · exact (freeTokens_frame _).step (announce_frame ..) (by decide) (by decide)
  · exact (freeTokens_frame _).mono (by decide)
theorem queueBid_frame (a : Antenna) : ChangesOnly [.tok, .bus, .rep] s (queueBid s a).1 := by
  unfold queueBid
  exact ((disown_frame ..).step (setTok_frame ..) (cs := [.tok, .bus]) (by decide) (by decide)).step (enqueue_frame ..)
    (by decide) (by decide)
theorem keyTokens_frame (b : Band) (a : Antenna) : ChangesOnly [.tok, .bus, .rep, .gov] s (keyTokens s b a).1 := by
  unfold keyTokens
  have h : ChangesOnly [.tok, .bus] s
      ((disown (freeTokens s) (fun f => f.isKind .txon)).setTok ⟨.keyed, some b, some a, false, none, none⟩) :=
    ((freeTokens_frame _).step (disown_frame ..) (cs := [.tok, .bus]) (by decide) (by decide)).step (setTok_frame ..)
      (by decide) (by decide)
  exact (h.step (cs := [.tok, .bus, .rep, .gov]) (governorCommit_frame ..) (by decide) (by decide)).step (enqueue_frame ..) (by decide) (by decide)
theorem unkeyTokens_frame : ChangesOnly [.tok, .bus, .rep] s (unkeyTokens s) := by
  unfold unkeyTokens
  split
  · exact (setTok_frame ..).step (announce_frame ..) (by decide) (by decide)
  · exact .refl
theorem bandChangeTokens_frame : ChangesOnly [.tok, .bus, .rep] s (bandChangeTokens s) := by
  unfold bandChangeTokens
  split <;> first | exact .refl | exact dropTokens_frame _
theorem abortTokens_frame (r : AbortReason) : ChangesOnly [.tok, .bus, .rep] s (abortTokens s r) := by
  cases r with
  | revoked => exact unkeyTokens_frame _
  | restart =>
    unfold abortTokens
    dsimp only
    split
    · exact dropTokens_frame _
    · exact (freeTokens_frame _).mono (by decide)
    · exact .refl
    · exact .refl
  | bandChange => exact .refl
  | collision => exact .refl
theorem recordBid_frame (p : Node) (b : Band) (c : Class) (a : Antenna) : ChangesOnly [.bids] s (recordBid s p b c a) :=
  setBids_frame ..

/-! ### Selection unit -/

theorem giveUp_frame (name : SelName) : ChangesOnly arbBlocks s (giveUp s name) := by
  unfold giveUp
  have h : ChangesOnly arbBlocks s (disownAsks (s.setSelection name Selection.reset) name) :=
    (setSelection_frame ..).step (disown_frame ..) (by decide) (by decide)
  dsimp only
  split
  · exact h
  · exact .ite h (.ite (h.trans (judgeFree_frame ..)) (h.step (sendTo_frame ..) (by decide) (by decide)))
theorem askFor_frame (name : SelName) (c : Nat) (a : Antenna) : ChangesOnly arbBlocks s (askFor s name c a) := by
  unfold askFor
  have h : ∀ r, ChangesOnly arbBlocks s ((disownAsks s name).setSelection name r) :=
    fun r => (disown_frame ..).step (setSelection_frame ..) (by decide) (by decide)
  exact .ite ((h _).trans (judgeAsk_frame ..)) ((h _).step (enqueue_frame ..) (by decide) (by decide))
theorem askChoice_frame (name : SelName) (c : Nat) : ChangesOnly arbBlocks s (askChoice s name c) := by
  unfold askChoice
  split
  · exact (setSelection_frame ..).mono (by decide)
  · split
    · exact .refl
    · split
      · exact (setSelection_frame ..).mono (by decide)
      · exact askFor_frame ..
      · exact .refl
theorem askIf_frame (name : SelName) (c : Option Nat) : ChangesOnly arbBlocks s (askIf s name c) := by
  cases c
  · exact .refl
  · exact askChoice_frame ..
theorem giveUpIf_frame (name : SelName) (c : Option Nat) : ChangesOnly arbBlocks s (giveUpIf s name c) := by
  cases c
  · exact .refl
  · exact giveUp_frame ..
theorem giveUpBoth_frame (tx rx : Option Nat) : ChangesOnly arbBlocks s (giveUpBoth s tx rx) :=
  (giveUpIf_frame ..).trans (giveUpIf_frame ..)
theorem askBoth_frame (tx rx : Option Nat) : ChangesOnly arbBlocks s (askBoth s tx rx) :=
  (askIf_frame ..).trans (askIf_frame ..)
theorem applyChoices_frame (tx rx : Option Nat) : ChangesOnly arbBlocks s (applyChoices s tx rx) :=
  ((giveUpBoth_frame ..).trans (reofferFreed_frame ..)).trans (askBoth_frame ..)
theorem push_frame (b : Band) : ChangesOnly [.sel] s (push s b) := by
  unfold push
  split
  · exact .ite .refl (setSel_frame ..)
  · exact .refl
theorem pop_frame (b : Band) : ChangesOnly [.sel] s (pop s b) := setSel_frame ..
theorem enterBand_frame (b : Band) : ChangesOnly arbBlocks s (enterBand s b) := by
  unfold enterBand
  split
  · exact (pop_frame ..).step (applyChoices_frame ..) (by decide) (by decide)
  · exact applyChoices_frame ..
theorem carryOutRelease_frame (scope : Scope) : ChangesOnly releaseBlocks s (carryOutRelease s scope) := by
  unfold carryOutRelease
  have up : ∀ (b : Bool) (name : SelName) (u : State), ChangesOnly releaseBlocks u (if b then giveUp u name else u) :=
    fun _ _ _ => .ite ((giveUp_frame ..).mono (by decide)) .refl
  have dr : ∀ (b : Bool) (u : State), ChangesOnly releaseBlocks u (if b then dropTokens u else u) :=
    fun _ _ => .ite ((dropTokens_frame _).mono (by decide)) .refl
  exact (((up ..).trans (up ..)).trans (dr ..)).step (setSel_frame ..) (by decide) (by decide)
theorem clearPending_frame : ChangesOnly [.sel] s (clearPending s) := setSel_frame ..
theorem pendingWork_frame : ChangesOnly releaseBlocks s (pendingWork s) := by
  unfold pendingWork
  have h1 : ∀ o : Option Scope, ChangesOnly releaseBlocks s
      (match o with | some scope => carryOutRelease s scope | none => s) := by
    intro o
    cases o
    · exact .refl
    · exact carryOutRelease_frame ..
  have h2 : ∀ (c : Bool) (u : State) (b : Band), ChangesOnly releaseBlocks u (if c then push u b else u) :=
    fun _ _ _ => .ite ((push_frame ..).mono (by decide)) .refl
  exact (((h1 _).trans (h2 ..)).trans ((clearPending_frame _).mono (by decide))).trans
    (.trans (((giveUpBoth_frame ..).trans (reofferFreed_frame ..)).mono (by decide)) ((askBoth_frame ..).mono (by decide)))
theorem putSlot_frame (c : Nat) (r : Bool) : ChangesOnly [.sel] s (putSlot s c r) := .ite (setSel_frame ..) (setSel_frame ..)
theorem putRelease_frame (scope : Scope) : ChangesOnly [.sel] s (putRelease s scope) := setSel_frame ..
theorem dropPending_frame : ChangesOnly [.sel] s (dropPending s) := by
  unfold dropPending
  exact .ite ((clearPending_frame _).trans (setSel_frame ..)) (clearPending_frame _)
theorem bandChangeSelections_frame (old new : Band) : ChangesOnly arbBlocks s (bandChangeSelections s old new) := by
  unfold bandChangeSelections
  have h : ChangesOnly arbBlocks s (if old = 0 then s else push s old) := .ite .refl ((push_frame ..).mono (by decide))
  have g : ∀ u, ChangesOnly arbBlocks u (reofferFreed u (giveUp (giveUp u .tx) .rx)) :=
    fun _ => ((giveUp_frame ..).trans (giveUp_frame ..)).trans (reofferFreed_frame ..)
  exact .ite (h.trans (g _)) ((h.trans (g _)).trans (enterBand_frame ..))
theorem askAgain_frame (name : SelName) : ChangesOnly arbBlocks s (askAgain s name) := askIf_frame ..
theorem retrySelections_frame (h : Node) : ChangesOnly arbBlocks s (retrySelections s h) := by
  unfold retrySelections
  have a : ∀ (c : Bool) (name : SelName) (u : State), ChangesOnly arbBlocks u (if c then askAgain u name else u) :=
    fun _ _ _ => .ite (askAgain_frame ..) .refl
  exact (a ..).trans (a ..)
theorem takeFreeFromHome_frame (a : Antenna) (use : Use) (c : FreeCause) :
    ChangesOnly arbBlocks s (takeFreeFromHome s a use c) :=
  .ite (askAgain_frame ..) ((takeLoss_frame ..).mono (by decide))

/-! ### Keying sequencer -/

theorem enterRest_frame : ChangesOnly releaseBlocks s (enterRest s) :=
  (foldGuards_frame _).step (pendingWork_frame _) (by decide) (by decide)
theorem enterReceive_frame : ChangesOnly keyBlocks s (enterReceive s) :=
  (setKey_frame ..).step (enterRest_frame _) (by decide) (by decide)
theorem enterLockout_frame (r : LockReason) : ChangesOnly keyBlocks s (enterLockout s r) :=
  (setKey_frame ..).step (enterRest_frame _) (by decide) (by decide)
theorem refuse_frame (r : LockReason) : ChangesOnly keyBlocks s (refuse s r) :=
  ((count_frame ..).trans (raise_frame ..)).step (enterLockout_frame ..) (by decide) (by decide)
theorem bidLost_frame : ChangesOnly keyBlocks s (bidLost s) := by
  unfold bidLost
  exact .ite ((freeTokens_frame _).step (refuse_frame ..) (by decide) (by decide))
    ((freeTokens_frame _).mono (by decide))
theorem txonLost_frame : ChangesOnly keyBlocks s (txonLost s) :=
  .ite ((unkeyTokens_frame _).step (refuse_frame ..) (by decide) (by decide)) .refl
theorem waitWith_frame (l : Lead) : ChangesOnly [.key] s (waitWith s l) := setKey_frame ..
theorem keyAtOnce_frame (a : Antenna) : ChangesOnly pressBlocks s (keyAtOnce s a) := by
  unfold keyAtOnce
  have h : ChangesOnly pressBlocks s (keyTokens (waitWith s .awaitsTxon) s.band.decoded a).1 :=
    (waitWith_frame ..).step (keyTokens_frame ..) (by decide) (by decide)
  exact .ite h (h.step (txonLost_frame _) (by decide) (by decide))
theorem keyByBid_frame (a : Antenna) : ChangesOnly keyBlocks s (keyByBid s a) := by
  unfold keyByBid
  have h : ChangesOnly keyBlocks s (queueBid (waitWith s .awaitsBid) a).1 :=
    (waitWith_frame ..).step (queueBid_frame ..) (by decide) (by decide)
  exact .ite h (h.trans (bidLost_frame _))
theorem joinBid_frame : ChangesOnly [.key] s (joinBid s) := by
  unfold joinBid
  split <;> exact waitWith_frame ..
theorem requestKeydown_frame (a : Antenna) : ChangesOnly pressBlocks s (requestKeydown s a) := by
  unfold requestKeydown
  split
  · exact .ite (.ite (keyAtOnce_frame ..) ((refuse_frame ..).mono (by decide))) ((keyByBid_frame ..).mono (by decide))
  · exact .ite ((joinBid_frame _).mono (by decide)) ((keyByBid_frame ..).mono (by decide))
  · exact keyAtOnce_frame ..
  · exact keyAtOnce_frame ..
theorem enterKeyWait_frame (a : Antenna) : ChangesOnly [.key] s (enterKeyWait s a) := setKey_frame ..
theorem takePress_frame : ChangesOnly pressBlocks s (takePress s) := by
  unfold takePress
  split
  · exact (refuse_frame ..).mono (by decide)
  · exact (refuse_frame ..).mono (by decide)
  · exact .ite ((governorCheck_frame _).step (refuse_frame ..) (by decide) (by decide))
      (((governorCheck_frame _).step (enterKeyWait_frame ..) (cs := [.rep, .key]) (by decide) (by decide)).step
        (requestKeydown_frame ..) (by decide) (by decide))
theorem startLead_frame (l : Lead) : ChangesOnly [.key] s (startLead s l) := .ite (setKey_frame ..) .refl
theorem beginSteps_frame : ChangesOnly [.key] s (beginSteps s) := setKey_frame ..
theorem endTail_frame (t : Tail) : ChangesOnly keyBlocks s (endTail s t) := by
  unfold endTail
  cases t with
  | unkey => exact (setKey_frame ..).step (enterReceive_frame _) (by decide) (by decide)
  | abort r =>
    have h : ∀ k, ChangesOnly keyBlocks s (enterLockout (s.setKey k) r.lock) :=
      fun k => (setKey_frame ..).step (enterLockout_frame ..) (by decide) (by decide)
    exact .ite (h _) ((h _).trans (enterReceive_frame _))
theorem enterTail_frame (t : Tail) : ChangesOnly keyBlocks s (enterTail s t) := by
  unfold enterTail
  have h : ∀ k, ChangesOnly keyBlocks s (s.setKey k) := fun k => (setKey_frame ..).mono (by decide)
  have e : ∀ k, ChangesOnly keyBlocks s (endTail (s.setKey k) t) := fun k => (h k).trans (endTail_frame ..)
  dsimp only
  split
  · exact h _
  · exact .ite (h _) (e _)
  · exact e _
  · exact e _
  · exact e _
  · exact e _
theorem abort_frame (r : AbortReason) : ChangesOnly keyBlocks s (abort s r) :=
  .ite ((((abortTokens_frame ..).step (count_frame ..) (cs := [.tok, .bus, .rep]) (by decide) (by decide)).step
    (raise_frame ..) (cs := [.tok, .bus, .rep]) (by decide) (by decide)).step (enterTail_frame ..) (by decide) (by decide))
    .refl
theorem abortIfTxLost_frame : ChangesOnly keyBlocks s (abortIfTxLost s) := .ite (abort_frame ..) .refl
theorem yieldTest_frame (p : Node) (k : FrameKind) (q : Byte) : ChangesOnly keyBlocks s (yieldTest s p k q) := by
  unfold yieldTest
  have h : ChangesOnly keyBlocks s (((dropTokens s).count .collisions 1).recordFault p .collision k q) :=
    (((dropTokens_frame _).step (count_frame ..) (cs := [.tok, .bus, .rep]) (by decide) (by decide)).step
      (recordFault_frame ..) (cs := [.tok, .bus, .rep]) (by decide) (by decide)).mono (by decide)
  exact .ite (.ite (h.trans (abort_frame ..)) h) .refl
theorem followUp_frame : ChangesOnly keyBlocks s (followUp s) :=
  ((carryOutDeferred_frame _).mono (by decide)).trans (abortIfTxLost_frame _)
theorem closeEvent_frame : ChangesOnly keyBlocks s (closeEvent s) :=
  ((followUp_frame _).trans (followUp_frame _)).trans ((evalOutputs_frame _).mono (by decide))

/-! ### Peer tracker -/

theorem isolate_frame : ChangesOnly [.tracker] s (isolate s) := setTracker_frame ..
theorem peerHeard_frame : ChangesOnly [.tracker] s (peerHeard s) := setTracker_frame ..
theorem ownFrameLost_frame : ChangesOnly [.tracker] s (ownFrameLost s) := .ite (isolate_frame _) .refl
theorem ownFrameSent_frame : ChangesOnly [.tracker] s (ownFrameSent s) := .ite (setTracker_frame ..) .refl
theorem peerRestarted_frame (p : Node) : ChangesOnly peerBlocks s (peerRestarted s p) := by
  unfold peerRestarted
  exact (((removeBid_frame ..).step (releasePeer_frame ..) (cs := peerBlocks) (by decide) (by decide)).step
    (homeRestarted_frame ..) (cs := peerBlocks) (by decide) (by decide)).step (abortIfTxLost_frame _) (by decide) (by decide)
theorem peerGone_frame (p : Node) : ChangesOnly peerBlocks s (peerGone s p) := by
  unfold peerGone
  exact ((((setPeer_frame ..).step (removeBid_frame ..) (cs := peerBlocks) (by decide) (by decide)).step
    (releasePeer_frame ..) (cs := peerBlocks) (by decide) (by decide)).step (homeGone_frame ..) (cs := peerBlocks)
    (by decide) (by decide)).step (abortIfTxLost_frame _) (by decide) (by decide)
theorem arrivalFaults_frame (p : Node) (a : Arrival) (k : FrameKind) (q : Byte) :
    ChangesOnly [.rep] s (arrivalFaults s p a k q) := by
  unfold arrivalFaults
  split <;> first | exact .refl | exact (count_frame ..).trans (recordFault_frame ..) | exact recordFault_frame ..
theorem track_frame (p : Node) (a : Arrival) (k : FrameKind) (e : BitVec 4) (q : Byte) (g : Bool) :
    ChangesOnly peerBlocks s (track s p a k e q g) := by
  unfold track
  have h : ∀ u r, ChangesOnly peerBlocks u (peerHeard (u.setPeer p r)) :=
    fun u r => ((setPeer_frame ..).trans (peerHeard_frame _)).mono (by decide)
  have f : ChangesOnly peerBlocks s (arrivalFaults s p a k q) := (arrivalFaults_frame ..).mono (by decide)
  dsimp only
  split
  · exact (f.trans (h ..)).trans (peerRestarted_frame ..)
  all_goals exact f.trans (h ..)
theorem judgeDigest_frame (p : Node) (d : BitVec 16) (k : FrameKind) (q : Byte) :
    ChangesOnly [.tracker, .rep] s (judgeDigest s p d k q) :=
  .ite ((setPeer_frame ..).mono (by decide)) ((setPeer_frame ..).step (recordFault_frame ..) (by decide) (by decide))
theorem silence_frame (p : Node) : ChangesOnly [.tracker, .rep] s (silence s p) :=
  (setPeer_frame ..).step (recordFault_frame ..) (by decide) (by decide)

/-! ### Host port -/

theorem respond_frame (k : Byte) (st : Status) (b : List Byte) : ChangesOnly [.host] s (respond s k st b) := setHost_frame ..
theorem answerOnly_frame (k : Byte) (st : Status) : ChangesOnly [.host] s (answerOnly s k st) := respond_frame ..
theorem queueRoll_frame (due : Tick) : ChangesOnly queueBlocks s (queueRoll s due) :=
  (announce_frame ..).step (setBus_frame ..) (by decide) (by decide)
theorem openSession_frame : ChangesOnly queueBlocks s (openSession s) := (announce_frame ..).trans (queueRoll_frame ..)
theorem beginListenIn_frame : ChangesOnly [.mode, .tracker] s (beginListenIn s) :=
  (setMode_frame ..).step (setTracker_frame ..) (by decide) (by decide)

end

end Sys2Proof.Machine
end

