-- ==== Sys2Proof/Laws/Meanings.lean ====
section
/-! SUPPORT. For each command: it answers a next state, and the blocks that differ in it. -/

namespace Sys2Proof.Machine

/-- A meaning answers a next state in which only the listed blocks differ. -/
def Answers (r : Result) (bs : List Block) (s : State) : Prop := ∃ t, r = .next t ∧ ChangesOnly bs s t

theorem Answers.next {bs : List Block} {s t : State} (h : ChangesOnly bs s t) : Answers (.next t) bs s := ⟨t, rfl, h⟩

theorem Answers.mono {as bs : List Block} {r : Result} {s : State} (h : Answers r as s) (sub : ∀ b, b ∈ as → b ∈ bs) :
    Answers r bs s := by
  obtain ⟨t, e, h⟩ := h
  exact ⟨t, e, h.mono sub⟩

theorem Answers.ite {bs : List Block} {c : Prop} [Decidable c] {a b : Result} {s : State} (ha : Answers a bs s)
    (hb : Answers b bs s) : Answers (if c then a else b) bs s := by
  split
  · exact ha
  · exact hb

theorem closeRecord_frame (s : State) : ChangesOnly [.host] s (closeRecord s) := setHost_frame ..

theorem takeRequest_frame {bs : List Block} {s : State} {record : List Byte} {f : State → State}
    (hb : ∀ b, b ∈ [Block.host] → b ∈ bs) (h : ∀ u, ChangesOnly bs u (f u)) : ChangesOnly bs s (takeRequest s record f) := by
  have c : ChangesOnly bs s (closeRecord s) := (closeRecord_frame s).mono hb
  exact .ite .refl (.ite ((setHost_frame ..).mono hb) (.ite .refl (.ite (c.trans (h _)) c)))

theorem request_answers {bs : List Block} {s : State} {kind : Byte} {body : List Byte} {f : State → State}
    (hb : ∀ b, b ∈ [Block.host] → b ∈ bs) (h : ∀ u, ChangesOnly bs u (f u)) : Answers (request s kind body f) bs s :=
  .next (takeRequest_frame hb h)

/-- A reply after a change. -/
theorem ChangesOnly.respond {bs : List Block} {s t : State} (h : ChangesOnly bs s t) (k : Byte) (st : Status)
    (b : List Byte) (hb : ∀ x, x ∈ [Block.host] → x ∈ bs) : ChangesOnly bs s (respond t k st b) :=
  h.trans ((respond_frame ..).mono hb)

theorem ChangesOnly.answer {bs : List Block} {s t : State} (h : ChangesOnly bs s t) (k : Byte) (st : Status)
    (hb : ∀ x, x ∈ [Block.host] → x ∈ bs) : ChangesOnly bs s (answerOnly t k st) := h.respond k st [] hb

theorem ChangesOnly.close {bs : List Block} {s t : State} (h : ChangesOnly bs s t) (hb : ∀ x, x ∈ keyBlocks → x ∈ bs) :
    ChangesOnly bs s (closeEvent t) := h.trans ((closeEvent_frame _).mono hb)


section
variable (s : State)

/-! ### Lines -/

theorem execHardReset_answers (straps : BitVec 3) (byLine : Bool) :
    ∃ t, execHardReset straps byLine s = .next t ∧ t.pending = s.pending ∧ t.freeIndex = s.freeIndex := ⟨_, rfl, rfl, rfl⟩
theorem execResetReleased_answers : Answers (execResetReleased s) [.inReset] s := .next (setInReset_frame ..)
theorem sampleBand_frame : ChangesOnly [.band] s (sampleBand s) := .ite .refl (setBand_frame ..)
theorem execBandLinesChange_answers (c : BitVec 4) : Answers (execBandLinesChange c s) [.lines, .band] s :=
  .next (((setLines_frame ..).mono (by decide)).trans (.ite .refl ((sampleBand_frame _).mono (by decide))))
theorem bandChange_frame (old new : Band) : ChangesOnly keyBlocks s (bandChange s old new) := by
  unfold bandChange
  have h1 : ∀ (c : Bool) (u : State), ChangesOnly keyBlocks u (if c then dropPending u else u) :=
    fun _ _ => .ite ((dropPending_frame _).mono (by decide)) .refl
  have h2 : ∀ u, ChangesOnly keyBlocks u (carryOutDeferred (bandChangeTokens (abort u .bandChange))) := fun u =>
    ((abort_frame ..).trans ((bandChangeTokens_frame _).mono (by decide))).trans ((carryOutDeferred_frame _).mono (by decide))
  have h3 : ∀ u : State, ChangesOnly keyBlocks u (if u.mode = .setup then u else recompute u) :=
    fun _ => .ite .refl ((recompute_frame _).mono (by decide))
  have h4 : ∀ (c : Bool) (u : State), ChangesOnly keyBlocks u (if c then bandChangeSelections u old new else u) :=
    fun _ _ => .ite ((bandChangeSelections_frame ..).mono (by decide)) .refl
  exact ((((h1 ..).trans (h2 _)).trans (h3 _)).trans (h4 ..)).close (by decide)
theorem execBandSettle_answers :
    Answers (execBandSettle s) [.arb, .bus, .rep, .drv, .sel, .tok, .key, .band] s := by
  unfold execBandSettle
  refine .ite (.next ?_) (.next .refl)
  exact .ite ((setBand_frame ..).mono (by decide)) (((setBand_frame ..).mono (by decide)).trans
    ((bandChange_frame ..).mono (by decide)))
theorem setPtt_frame (l : Bool) : ChangesOnly [.key] s (setPtt s l) := setKey_frame ..
theorem movePtt_frame (l : Bool) : ChangesOnly [.lines] s (movePtt s l) := setLines_frame ..
theorem execPttPress_answers :
    Answers (execPttPress s) [.arb, .bus, .rep, .drv, .sel, .tok, .key, .gov, .lines] s := by
  unfold execPttPress
  refine .ite (.next ?_) (.next ((movePtt_frame ..).mono (by decide)))
  have h : ∀ (c : Bool) (u : State), ChangesOnly pressBlocks u (if c then takePress u else u) :=
    fun _ _ => .ite (takePress_frame _) .refl
  exact (((setPtt_frame ..).mono (by decide)).trans ((h ..).mono (by decide))).close (by decide)
theorem takeRelease_frame : ChangesOnly keyBlocks s (takeRelease s) := by
  unfold takeRelease
  split
  · exact .refl
  · exact .refl
  · exact ((unkeyTokens_frame _).mono (by decide)).trans (enterReceive_frame _)
  · exact ((unkeyTokens_frame _).mono (by decide)).trans (enterTail_frame ..)
  · exact ((unkeyTokens_frame _).mono (by decide)).trans (enterTail_frame ..)
  · exact enterReceive_frame _
theorem execPttRelease_answers :
    Answers (execPttRelease s) [.arb, .bus, .rep, .drv, .sel, .tok, .key, .lines] s := by
  unfold execPttRelease
  refine .ite (.next ?_) (.next ((movePtt_frame ..).mono (by decide)))
  have h : ∀ (c : Bool) (u : State), ChangesOnly keyBlocks u (if c then u else takeRelease u) :=
    fun _ _ => .ite .refl (takeRelease_frame _)
  exact (((setPtt_frame ..).mono (by decide)).trans ((h ..).mono (by decide))).close (by decide)

/-! ### Keying steps -/

theorem execKeyWaitEnd_answers : Answers (execKeyWaitEnd s) [.key, .rep] s :=
  .next (.ite ((beginSteps_frame _).step (evalOutputs_frame _) (by decide) (by decide)) .refl)
theorem execAmpStep_answers : Answers (execAmpStep s) [.key] s := .next (.ite (setKey_frame ..) .refl)
theorem execInhibitStep_answers : Answers (execInhibitStep s) [.key] s := .next (.ite (setKey_frame ..) .refl)
theorem execTailAmpStep_answers : Answers (execTailAmpStep s) [.key] s := .next (.ite (setKey_frame ..) .refl)
theorem execTailEnd_answers : Answers (execTailEnd s) pressBlocks s := by
  unfold execTailEnd
  split
  · have h : ∀ (t : Tail) (u : State), ChangesOnly pressBlocks u (pressAfter t u) :=
      fun _ _ => .ite (takePress_frame _) .refl
    exact .next ((((endTail_frame ..).mono (by decide)).trans (h ..)).close (by decide))
  · exact .next .refl

/-! ### Bus -/

theorem rejectOpen_frame : ChangesOnly queueBlocks s (rejectOpen s) :=
  (ChangesOnly.ite (rejectOne_frame _) .refl).step (closeStray_frame _) (by decide) (by decide)
theorem execBusFree_answers : Answers (execBusFree s) queueBlocks s :=
  .ite (.next ((rejectOpen_frame _).step (setBus_frame ..) (by decide) (by decide))) (.next .refl)
theorem reportNumber_frame (f : QueuedFrame) (q : Byte) : ChangesOnly [.sel] s (reportNumber s f q) := by
  unfold reportNumber
  split
  · exact .ite (setSelection_frame ..) .refl
  · exact .refl
theorem startAttempt_frame (f : QueuedFrame) (t : List QueuedFrame) : ChangesOnly [.bus, .sel] s (startAttempt s f t) :=
  .ite ((setBus_frame ..).step (reportNumber_frame ..) (by decide) (by decide)) ((setBus_frame ..).mono (by decide))
theorem execFrameAttemptStart_answers : Answers (execFrameAttemptStart s) [.bus, .sel] s := by
  unfold execFrameAttemptStart
  split
  · exact .next (startAttempt_frame ..)
  · exact .next .refl
theorem reportLost_frame (f : QueuedFrame) : ChangesOnly keyBlocks s (reportLost s f) := by
  unfold reportLost
  refine .ite ?_ .refl
  split
  · exact .ite (bidLost_frame _) .refl
  · exact txonLost_frame _
  · exact (grantReported_frame ..).mono (by decide)
  · exact .refl
theorem bidSent_frame : ChangesOnly [.tok, .key] s (bidSent s) :=
  (setTok_frame ..).step (startLead_frame ..) (by decide) (by decide)
theorem reportSent_frame (f : QueuedFrame) : ChangesOnly [.arb, .tok, .key] s (reportSent s f) := by
  unfold reportSent
  refine .ite ?_ .refl
  split
  · exact .ite ((bidSent_frame _).mono (by decide)) .refl
  · exact (startLead_frame ..).mono (by decide)
  · exact (grantReported_frame ..).mono (by decide)
  · exact .refl
theorem giveUpFrame_frame (f : QueuedFrame) (t : List QueuedFrame) :
    ChangesOnly [.arb, .bus, .rep, .drv, .sel, .tok, .key, .tracker] s (giveUpFrame s f t) := by
  unfold giveUpFrame
  exact (((((setBus_frame ..).mono (by decide)).trans ((count_frame ..).mono (by decide))).trans
    ((ownFrameLost_frame _).mono (by decide))).trans ((reportLost_frame ..).mono (by decide))).close (by decide)
theorem sentFrame_frame (t : List QueuedFrame) : ChangesOnly queueBlocks s (sentFrame s t) :=
  (setBus_frame ..).step (count_frame ..) (by decide) (by decide)
theorem execFrameSent_answers : Answers (execFrameSent s) [.arb, .bus, .rep, .tok, .key, .tracker] s := by
  unfold execFrameSent
  split
  · exact .next ((((sentFrame_frame ..).mono (by decide)).trans ((ownFrameSent_frame _).mono (by decide))).trans
      ((reportSent_frame ..).mono (by decide)))
  · exact .next .refl

/-! ### Frames -/

theorem accept_frame (f : WireFrame) : ChangesOnly queueBlocks s (accept s f) :=
  (closeFrame_frame ..).step (count_frame ..) (by decide) (by decide)
theorem trackFrame_frame (p : Node) (f : WireFrame) (k : FrameKind) : ChangesOnly peerBlocks s (trackFrame s p f k) :=
  track_frame ..
theorem trackPlain_frame (p : Node) (f : WireFrame) (k : FrameKind) : ChangesOnly peerBlocks s (trackPlain s p f k) :=
  track_frame ..
theorem takeFrame_frame (p : Node) (f : WireFrame) (c : Content) : ChangesOnly peerBlocks s (takeFrame s p f c) :=
  ((accept_frame ..).mono (by decide)).trans (trackFrame_frame ..)
theorem hearRejected_frame (f : WireFrame) : ChangesOnly queueBlocks s (hearRejected s f) :=
  (closeFrame_frame ..).step (rejectOne_frame _) (by decide) (by decide)
theorem hearElsewhere_frame (p : Node) (f : WireFrame) (k : FrameKind) :
    ChangesOnly peerBlocks s (hearElsewhere s p f k) :=
  (((accept_frame ..).mono (by decide)).trans (trackPlain_frame ..)).close (by decide)
theorem hearBad_frame (p : Node) (f : WireFrame) (k : FrameKind) : ChangesOnly peerBlocks s (hearBad s p f k) :=
  ((((accept_frame ..).mono (by decide)).trans ((recordFault_frame ..).mono (by decide))).trans
    (trackPlain_frame ..)).close (by decide)
theorem takeHello_frame (p : Node) (f : WireFrame) (d : BitVec 16) (ds : List Descriptor) :
    ChangesOnly (.learned :: peerBlocks) s (takeHello s p f d ds) := by
  unfold takeHello
  exact ((((judgeDigest_frame ..).mono (by decide)).trans ((callCatalogue_frame _).mono (by decide))).trans
    ((learn_frame ..).mono (by decide))).trans ((peerRestarted_frame ..).mono (by decide))
theorem hearHello_frame (p : Node) (f : WireFrame) (d : BitVec 16) (ds : List Descriptor) :
    ChangesOnly (.learned :: peerBlocks) s (hearHello s p f d ds) :=
  (((takeFrame_frame ..).mono (by decide)).trans (takeHello_frame ..)).close (by decide)
theorem hearCatalogue_frame (p : Node) (f : WireFrame) (d : BitVec 16) (ds : List Descriptor) :
    ChangesOnly (.learned :: peerBlocks) s (hearCatalogue s p f d ds) :=
  (((takeFrame_frame ..).mono (by decide)).trans ((learn_frame ..).mono (by decide))).close (by decide)
theorem fillRoll_frame (p : Node) (f : WireFrame) (r : Roll) (b : Bool) :
    ChangesOnly [.tracker, .rep] s (fillRoll s p f r b) :=
  (setPeer_frame ..).step (judgeDigest_frame ..) (by decide) (by decide)
theorem arbiterRoll_frame (p : Node) (f : WireFrame) (r : Roll) : ChangesOnly arbBlocks s (arbiterRoll s p f r) := by
  unfold arbiterRoll
  have h := endDeferrals_frame s
  exact (ChangesOnly.ite ((h.trans (reconcile_frame ..)).trans ((answerClaims_frame ..).mono (by decide))) h).trans
    (reofferFreed_frame ..)
theorem rollOwners_frame (p : Node) (f : WireFrame) (r : Roll) : ChangesOnly keyBlocks s (rollOwners s p f r) := by
  unfold rollOwners
  have h1 : ∀ c : Bool, ChangesOnly keyBlocks s (if c then callCatalogue s else s) :=
    fun _ => .ite ((callCatalogue_frame _).mono (by decide)) .refl
  have h2 : ∀ (c : Bool) (u : State), ChangesOnly keyBlocks u (if c then retrySelections u p else u) :=
    fun _ _ => .ite ((retrySelections_frame ..).mono (by decide)) .refl
  exact ((((h1 _).trans ((arbiterRoll_frame ..).mono (by decide))).trans (h2 ..)).trans (abortIfTxLost_frame _)).trans
    (yieldTest_frame ..)
theorem hearRoll_frame (p : Node) (f : WireFrame) (r : Roll) : ChangesOnly peerBlocks s (hearRoll s p f r) :=
  (((takeFrame_frame ..).trans ((fillRoll_frame ..).mono (by decide))).trans
    ((rollOwners_frame ..).mono (by decide))).close (by decide)
theorem hearAsk_frame (p : Node) (f : WireFrame) (port : Port) (use : Use) (b : Band) (c : Class) :
    ChangesOnly peerBlocks s (hearAsk s p f port use b c) :=
  ((takeFrame_frame ..).trans ((judgeAsk_frame ..).mono (by decide))).close (by decide)
theorem hearRelease_frame (p : Node) (f : WireFrame) (port : Port) (use : Use) :
    ChangesOnly peerBlocks s (hearRelease s p f port use) :=
  (((takeFrame_frame ..).trans ((judgeFree_frame ..).mono (by decide))).trans ((reofferFreed_frame ..).mono (by decide))).close
    (by decide)
theorem takeOrReturn_frame (p : Node) (port : Port) (use : Use) (k : Nat) :
    ChangesOnly arbBlocks s (takeOrReturn s p port use k) := by
  unfold takeOrReturn
  have h : ChangesOnly arbBlocks s (takeGrant s (antennaAt p port) use k).1 := (takeGrant_frame ..).mono (by decide)
  exact .ite h (h.trans ((sendTo_frame ..).mono (by decide)))
theorem hearGrant_frame (p : Node) (f : WireFrame) (port : Port) (use : Use) (k : Nat) :
    ChangesOnly peerBlocks s (hearGrant s p f port use k) :=
  ((takeFrame_frame ..).trans ((takeOrReturn_frame ..).mono (by decide))).close (by decide)
theorem hearWait_frame (p : Node) (f : WireFrame) (port : Port) (k : Nat) :
    ChangesOnly peerBlocks s (hearWait s p f port k) :=
  ((takeFrame_frame ..).trans ((takeWait_frame ..).mono (by decide))).close (by decide)
theorem hearRefuse_frame (p : Node) (f : WireFrame) (port : Port) (r : RefuseReason) :
    ChangesOnly peerBlocks s (hearRefuse s p f port r) :=
  ((takeFrame_frame ..).trans ((takeRefuse_frame ..).mono (by decide))).close (by decide)
theorem hearFreeFromHome_frame (p : Node) (f : WireFrame) (port : Port) (use : Use) (c : FreeCause) :
    ChangesOnly peerBlocks s (hearFreeFromHome s p f port use c) :=
  ((takeFrame_frame ..).trans ((takeFreeFromHome_frame ..).mono (by decide))).close (by decide)
theorem hearBid_frame (p : Node) (f : WireFrame) (b : Band) (c : Class) (a : Antenna) :
    ChangesOnly peerBlocks s (hearBid s p f b c a) :=
  ((takeFrame_frame ..).trans ((recordBid_frame ..).mono (by decide))).close (by decide)
theorem takeAnnouncement_frame (p : Node) (c : Content) : ChangesOnly [.tracker, .bids] s (takeAnnouncement s p c) :=
  (setPeer_frame ..).step (removeBid_frame ..) (by decide) (by decide)
theorem hearTxon_frame (p : Node) (f : WireFrame) (b : Band) (a : Antenna) :
    ChangesOnly peerBlocks s (hearTxon s p f b a) :=
  (((takeFrame_frame ..).trans ((takeAnnouncement_frame ..).mono (by decide))).trans
    ((yieldTest_frame ..).mono (by decide))).close (by decide)
theorem hearTxoff_frame (p : Node) (f : WireFrame) (b : Band) (a : Antenna) :
    ChangesOnly peerBlocks s (hearTxoff s p f b a) :=
  (((takeFrame_frame ..).trans ((takeAnnouncement_frame ..).mono (by decide))).trans
    ((yieldTest_frame ..).mono (by decide))).close (by decide)
theorem hearDrop_frame (p : Node) (f : WireFrame) (b : Band) : ChangesOnly peerBlocks s (hearDrop s p f b) :=
  ((takeFrame_frame ..).trans ((takeAnnouncement_frame ..).mono (by decide))).close (by decide)
theorem hear_frame (p : Node) (f : WireFrame) (c : Content) : ChangesOnly (.learned :: peerBlocks) s (hear s p f c) := by
  unfold hear
  split
  · exact hearHello_frame ..
  · exact hearCatalogue_frame ..
  · exact (hearRoll_frame ..).mono (by decide)
  · exact (hearAsk_frame ..).mono (by decide)
  · exact (hearGrant_frame ..).mono (by decide)
  · exact (hearWait_frame ..).mono (by decide)
  · exact (hearRefuse_frame ..).mono (by decide)
  · exact (hearRelease_frame ..).mono (by decide)
  · exact (hearFreeFromHome_frame ..).mono (by decide)
  · exact (hearFreeFromHome_frame ..).mono (by decide)
  · exact (hearFreeFromHome_frame ..).mono (by decide)
  · exact (hearBid_frame ..).mono (by decide)
  · exact (hearTxon_frame ..).mono (by decide)
  · exact (hearTxoff_frame ..).mono (by decide)
  · exact (hearDrop_frame ..).mono (by decide)
theorem checkFrame_frame (f : WireFrame) : ChangesOnly (.learned :: peerBlocks) s (checkFrame s f) := by
  unfold checkFrame
  split
  · exact (hearRejected_frame ..).mono (by decide)
  · exact (hearElsewhere_frame ..).mono (by decide)
  · exact (hearBad_frame ..).mono (by decide)
  · exact hear_frame ..
theorem execFrameRejected_answers (f : WireFrame) : Answers (execFrameRejected f s) queueBlocks s := by
  unfold execFrameRejected
  split
  · exact .next (hearRejected_frame ..)
  · exact .next .refl
theorem execFrameAddressedElsewhere_answers (f : WireFrame) : Answers (execFrameAddressedElsewhere f s) peerBlocks s := by
  unfold execFrameAddressedElsewhere
  split
  · exact .next (hearElsewhere_frame ..)
  · exact .next .refl
theorem execFrameContentBad_answers (f : WireFrame) : Answers (execFrameContentBad f s) peerBlocks s := by
  unfold execFrameContentBad
  split
  · exact .next (hearBad_frame ..)
  · exact .next .refl
theorem execFrameReceivedHello_answers (f : WireFrame) :
    Answers (execFrameReceivedHello f s) (.learned :: peerBlocks) s := by
  unfold execFrameReceivedHello
  split
  · exact .next (hearHello_frame ..)
  · exact .next .refl
theorem execFrameReceivedCatalogue_answers (f : WireFrame) :
    Answers (execFrameReceivedCatalogue f s) (.learned :: peerBlocks) s := by
  unfold execFrameReceivedCatalogue
  split
  · exact .next (hearCatalogue_frame ..)
  · exact .next .refl
theorem execFrameReceivedRoll_answers (f : WireFrame) :
    Answers (execFrameReceivedRoll f s) peerBlocks s := by
  unfold execFrameReceivedRoll
  split
  · exact .next (hearRoll_frame ..)
  · exact .next .refl
theorem execFrameReceivedAsk_answers (f : WireFrame) :
    Answers (execFrameReceivedAsk f s) peerBlocks s := by
  unfold execFrameReceivedAsk
  split
  · exact .next (hearAsk_frame ..)
  · exact .next .refl
theorem execFrameReceivedFreeRelease_answers (f : WireFrame) :
    Answers (execFrameReceivedFreeRelease f s) peerBlocks s := by
  unfold execFrameReceivedFreeRelease
  split
  · exact .next (hearRelease_frame ..)
  · exact .next .refl
theorem execFrameReceivedGrant_answers (f : WireFrame) :
    Answers (execFrameReceivedGrant f s) peerBlocks s := by
  unfold execFrameReceivedGrant
  split
  · exact .next (hearGrant_frame ..)
  · exact .next .refl
theorem execFrameReceivedWait_answers (f : WireFrame) :
    Answers (execFrameReceivedWait f s) peerBlocks s := by
  unfold execFrameReceivedWait
  split
  · exact .next (hearWait_frame ..)
  · exact .next .refl
theorem execFrameReceivedRefuse_answers (f : WireFrame) :
    Answers (execFrameReceivedRefuse f s) peerBlocks s := by
  unfold execFrameReceivedRefuse
  split
  · exact .next (hearRefuse_frame ..)
  · exact .next .refl
theorem execFrameReceivedFreeFromHome_answers (f : WireFrame) :
    Answers (execFrameReceivedFreeFromHome f s) peerBlocks s := by
  unfold execFrameReceivedFreeFromHome
  split
  · exact .next (.ite .refl (hearFreeFromHome_frame ..))
  · exact .next .refl
theorem execFrameReceivedBid_answers (f : WireFrame) :
    Answers (execFrameReceivedBid f s) peerBlocks s := by
  unfold execFrameReceivedBid
  split
  · exact .next (hearBid_frame ..)
  · exact .next .refl
theorem execFrameReceivedTxon_answers (f : WireFrame) :
    Answers (execFrameReceivedTxon f s) peerBlocks s := by
  unfold execFrameReceivedTxon
  split
  · exact .next (hearTxon_frame ..)
  · exact .next .refl
theorem execFrameReceivedTxoff_answers (f : WireFrame) :
    Answers (execFrameReceivedTxoff f s) peerBlocks s := by
  unfold execFrameReceivedTxoff
  split
  · exact .next (hearTxoff_frame ..)
  · exact .next .refl
theorem execFrameReceivedDrop_answers (f : WireFrame) :
    Answers (execFrameReceivedDrop f s) peerBlocks s := by
  unfold execFrameReceivedDrop
  split
  · exact .next (hearDrop_frame ..)
  · exact .next .refl

/-! ### Characters -/

theorem checkClosed_frame : ChangesOnly (.learned :: peerBlocks) s (checkClosed s) := by
  unfold checkClosed
  split
  · exact checkFrame_frame ..
  · exact .refl
theorem execBusBusy_answers (f : Bool) (b : Byte) : Answers (execBusBusy f b s) (.learned :: peerBlocks) s :=
  .ite (.next (.ite ((busyBus_frame _).mono (by decide))
    (((busyBus_frame _).step (collect_frame ..) (by decide) (by decide)).trans (checkClosed_frame _)))) (.next .refl)
theorem execFramingBitInsideFrame_answers (b : Byte) : Answers (execFramingBitInsideFrame b s) queueBlocks s :=
  .ite (.next ((busyBus_frame _).step (collect_frame ..) (by decide) (by decide))) (.next .refl)
theorem attemptFails_frame (cs : List Byte) (i : Nat) (f : Bool) (b : Byte) :
    ChangesOnly (.learned :: peerBlocks) s (attemptFails s cs i f b) :=
  ((setBus_frame ..).step (collect_frame ..) (by decide) (by decide)).trans (checkClosed_frame _)
theorem execReadBackMismatch_answers (i : Nat) (f : Bool) (b : Byte) :
    Answers (execReadBackMismatch i f b s) (.learned :: peerBlocks) s := by
  unfold execReadBackMismatch
  split
  · dsimp only
    split
    · exact .next .refl
    · exact .ite (.next .refl)
        (.next (.ite (attemptFails_frame ..) ((attemptFails_frame ..).trans ((giveUpFrame_frame ..).mono (by decide)))))
  · exact .next .refl

/-! ### Timers -/

theorem execRollDue_answers : Answers (execRollDue s) [.bus, .rep, .key] s := by
  unfold execRollDue
  split
  · exact .next ((queueRoll_frame ..).step (evalOutputs_frame _) (by decide) (by decide))
  · exact .next .refl
theorem execPeerTimeout_answers (p : Node) : Answers (execPeerTimeout p s) peerBlocks s :=
  .next (.ite (((silence_frame ..).mono (by decide)).close (by decide)) .refl)
theorem execOrphanHoldExpiry_answers (p : Node) : Answers (execOrphanHoldExpiry p s) peerBlocks s :=
  .next (.ite ((peerGone_frame ..).close (by decide)) .refl)
theorem becomeActive_frame : ChangesOnly (.mode :: .tracker :: arbBlocks) s (becomeActive s) := by
  unfold becomeActive
  have h : ∀ x, ChangesOnly (.mode :: .tracker :: arbBlocks) s ((s.setMode .active).setTracker x) :=
    fun _ => ((setMode_frame ..).mono (by decide)).trans ((setTracker_frame ..).mono (by decide))
  exact .ite ((h _).trans ((enterBand_frame ..).mono (by decide))) (h _)
theorem execListenInEnd_answers : Answers (execListenInEnd s) (.mode :: .tracker :: keyBlocks) s :=
  .next (.ite (((becomeActive_frame _).mono (by decide)).close (by decide)) .refl)
theorem execIsolationTimeout_answers : Answers (execIsolationTimeout s) (.tracker :: keyBlocks) s :=
  .next (.ite (((isolate_frame _).mono (by decide)).close (by decide)) .refl)
theorem failDeadline_frame (name : SelName) : ChangesOnly [.sel, .rep] s (failDeadline s name) := by
  unfold failDeadline
  dsimp only
  split
  · exact (setSelection_frame ..).step (recordFault_frame ..) (by decide) (by decide)
  · exact (setSelection_frame ..).mono (by decide)
theorem execReplyDeadline_answers (name : SelName) : Answers (execReplyDeadline name s) keyBlocks s :=
  .next (.ite (((failDeadline_frame ..).mono (by decide)).close (by decide)) .refl)
theorem windowOutcome_frame (b : Band) (a : Antenna) : ChangesOnly pressBlocks s (windowOutcome s b a) := by
  unfold windowOutcome
  have f : ChangesOnly pressBlocks s (freeTokens s) := (freeTokens_frame _).mono (by decide)
  exact .ite (.ite ((keyTokens_frame ..).mono (by decide)) f) (.ite (f.trans ((refuse_frame ..).mono (by decide))) f)
theorem execWindowEnd_answers : Answers (execWindowEnd s) pressBlocks s := by
  unfold execWindowEnd
  split
  · exact .next ((windowOutcome_frame ..).close (by decide))
  · exact .next .refl
theorem execBidRecordExpiry_answers (p : Node) : Answers (execBidRecordExpiry p s) [.bids, .key, .rep] s :=
  .next (.ite ((removeBid_frame ..).step (evalOutputs_frame _) (by decide) (by decide)) .refl)
theorem execHangEnd_answers : Answers (execHangEnd s) keyBlocks s :=
  .next (.ite (((dropTokens_frame _).mono (by decide)).close (by decide)) .refl)
theorem execHourBoundary_answers : Answers (execHourBoundary s) [.gov] s := by
  unfold execHourBoundary
  split
  · exact .next (.ite (setGov_frame ..) .refl)
  · exact .next .refl
theorem execChainRefresh_answers : Answers (execChainRefresh s) [.drv] s := .next (.ite (setDrv_frame ..) .refl)

/-! ### Host port -/

theorem badRecord_frame (k : Byte) : ChangesOnly [.host] s (badRecord s k) := by
  unfold badRecord
  exact .ite ((closeRecord_frame _).trans (answerOnly_frame ..)) (closeRecord_frame _)
theorem overLong_frame (k : Byte) : ChangesOnly [.host] s (overLong s k) := by
  unfold overLong byteArrives
  exact ((setHost_frame ..).trans (badRecord_frame ..)).trans (setHost_frame ..)
theorem judgeRecord_frame (record : List Byte) (e : Bool) : ChangesOnly [.host] s (judgeRecord s record e) := by
  unfold judgeRecord
  split
  · exact .ite (overLong_frame ..) (.ite (setHost_frame ..) (.ite (badRecord_frame ..) .refl))
  · exact setHost_frame ..
theorem takeBytes_frame (bytes : List Byte) (e : Bool) : ChangesOnly [.host] s (takeBytes s bytes e) :=
  .ite .refl (.ite (setHost_frame ..) (judgeRecord_frame ..))
theorem endGap_frame : ChangesOnly [.host] s (endGap s) := by
  unfold endGap
  split
  · exact setHost_frame ..
  · split
    · exact badRecord_frame ..
    · exact .refl
theorem execPut_answers (item index : Byte) (value : List Byte) : Answers (execPut item index value s) [.cfg, .host] s := by
  unfold execPut
  refine .ite (.next ((takeBytes_frame ..).mono (by decide))) (request_answers (by decide) fun s => ?_)
  have h : ∀ st, ChangesOnly [.cfg, .host] s (answerOnly s 0x01 st) := fun _ => (answerOnly_frame ..).mono (by decide)
  split
  · exact h _
  · exact h _
  · exact .ite ((setCfg_frame ..).step (answerOnly_frame ..) (by decide) (by decide)) (h _)
theorem startEffects_frame (m n : Nat) :
    ChangesOnly [.mode, .tracker, .digest, .bus, .band, .key, .gov, .drv, .rep] s (startEffects s m n) := by
  unfold startEffects
  have h1 : ChangesOnly [.mode, .tracker, .digest, .bus, .band, .key, .gov, .drv, .rep] s
      (startBus (beginListenIn (s.setDigest (some (rulesDigest s.cfg))))) :=
    (((setDigest_frame ..).mono (by decide)).trans ((beginListenIn_frame _).mono (by decide))).trans
      ((setBus_frame ..).mono (by decide))
  have h2 : ∀ u, ChangesOnly [.mode, .tracker, .digest, .bus, .band, .key, .gov, .drv, .rep] u (startTower u) :=
    fun u => .ite (((setBand_frame ..).mono (by decide)).trans ((setKey_frame ..).mono (by decide))) .refl
  exact (((((h1.trans (h2 _)).trans ((setGov_frame ..).mono (by decide))).trans ((recompute_frame _).mono (by decide))).trans
    ((openSession_frame _).mono (by decide))).trans ((evalOutputs_frame _).mono (by decide)))
theorem execStart_answers (m n : Byte) :
    Answers (execStart m n s) [.mode, .tracker, .digest, .bus, .band, .key, .gov, .drv, .rep, .host] s := by
  refine request_answers (by decide) fun s => ?_
  have h : ∀ k st b, ChangesOnly [.mode, .tracker, .digest, .bus, .band, .key, .gov, .drv, .rep, .host] s
      (respond s k st b) := fun _ _ _ => (respond_frame ..).mono (by decide)
  refine .ite (h ..) (.ite (h ..) ?_)
  split
  · exact h ..
  · exact ((startEffects_frame ..).mono (by decide)).answer _ _ (by decide)
theorem execRestart_answers : Answers (execRestart s) requestBlocks s := by
  refine request_answers (by decide) fun s => ?_
  have h : ∀ k st, ChangesOnly requestBlocks s (answerOnly s k st) := fun _ _ => (answerOnly_frame ..).mono (by decide)
  exact .ite (h ..) (.ite (h ..) ((((setHost_frame ..).mono (by decide)).trans ((abort_frame ..).mono (by decide))).close
    (by decide)))
theorem restartRecords_frame : ChangesOnly restartBlocks s (restartRecords s) := by
  unfold restartRecords
  exact (((((((setBus_frame ..).mono (by decide)).trans ((setLearned_frame ..).mono (by decide))).trans
    ((setTracker_frame ..).mono (by decide))).trans ((setArb_frame ..).mono (by decide))).trans
    ((setSel_frame ..).mono (by decide))).trans ((setTok_frame ..).mono (by decide))).trans
    ((setBids_frame ..).mono (by decide))
theorem execRestartTakesEffect_answers : Answers (execRestartTakesEffect s) restartBlocks s := by
  refine .next (.ite ?_ .refl)
  unfold restartEffects
  exact ((((((restartRecords_frame _).trans ((setHost_frame ..).mono (by decide))).trans
    ((beginListenIn_frame _).mono (by decide))).trans ((recompute_frame _).mono (by decide))).trans
    ((openSession_frame _).mono (by decide))).trans ((evalOutputs_frame _).mono (by decide))).answer _ _ (by decide)
theorem execSelect_answers (c : Byte) : Answers (execSelect c s) requestBlocks s := by
  refine request_answers (by decide) fun s => ?_
  have h : ∀ k st, ChangesOnly requestBlocks s (answerOnly s k st) := fun _ _ => (answerOnly_frame ..).mono (by decide)
  refine .ite (h ..) (.ite (h ..) ?_)
  split
  · exact h ..
  · refine .ite (((putSlot_frame ..).mono (by decide)).answer _ _ (by decide)) (.ite (h ..) ?_)
    have a : ∀ u n, ChangesOnly arbBlocks u (applyChoice u n) := fun _ _ => .ite (applyChoices_frame ..) (applyChoices_frame ..)
    exact ((((push_frame ..).mono (by decide)).trans ((a ..).mono (by decide))).close (by decide)).answer _ _ (by decide)
theorem execRecall_answers : Answers (execRecall s) requestBlocks s := by
  refine request_answers (by decide) fun s => ?_
  have h : ∀ k st, ChangesOnly requestBlocks s (answerOnly s k st) := fun _ _ => (answerOnly_frame ..).mono (by decide)
  refine .ite (h ..) ?_
  split
  · exact h ..
  · exact h ..
  · have p : ChangesOnly requestBlocks s (pop s s.band.decoded) := (pop_frame ..).mono (by decide)
    exact .ite (((p.trans ((putSlot_frame ..).mono (by decide))).trans ((putSlot_frame ..).mono (by decide))).answer _ _
      (by decide)) (((p.trans ((applyChoices_frame ..).mono (by decide))).close (by decide)).answer _ _ (by decide))
theorem execRelease_answers (c : Byte) : Answers (execRelease c s) requestBlocks s := by
  refine request_answers (by decide) fun s => ?_
  have h : ∀ k st, ChangesOnly requestBlocks s (answerOnly s k st) := fun _ _ => (answerOnly_frame ..).mono (by decide)
  refine .ite (h ..) ?_
  split
  · exact h ..
  · exact h ..
  · exact .ite (h ..) (.ite (((putRelease_frame ..).mono (by decide)).answer _ _ (by decide))
      (((((carryOutRelease_frame ..).mono (by decide)).trans ((reofferFreed_frame ..).mono (by decide))).close
        (by decide)).respond _ _ _ (by decide)))
theorem execEvict_answers (n : Byte) : Answers (execEvict n s) (.host :: peerBlocks) s := by
  refine request_answers (by decide) fun s => ?_
  have h : ∀ k st, ChangesOnly (.host :: peerBlocks) s (answerOnly s k st) := fun _ _ => (answerOnly_frame ..).mono (by decide)
  refine .ite (h ..) (.ite (h ..) ?_)
  split
  · exact h ..
  · split
    · exact (((peerGone_frame ..).mono (by decide)).close (by decide)).answer _ _ (by decide)
    all_goals exact h ..
theorem execDisable_answers (n : Byte) : Answers (execDisable n s) requestBlocks s := by
  refine request_answers (by decide) fun s => ?_
  have h : ∀ k st, ChangesOnly requestBlocks s (answerOnly s k st) := fun _ _ => (answerOnly_frame ..).mono (by decide)
  refine .ite (h ..) (.ite (h ..) ?_)
  split
  · exact h ..
  · exact .ite (h ..) ((((disablePort_frame ..).mono (by decide)).close (by decide)).answer _ _ (by decide))
theorem execEnable_answers (n : Byte) : Answers (execEnable n s) [.arb, .host] s := by
  refine request_answers (by decide) fun s => ?_
  have h : ∀ k st, ChangesOnly [.arb, .host] s (answerOnly s k st) := fun _ _ => (answerOnly_frame ..).mono (by decide)
  refine .ite (h ..) (.ite (h ..) ?_)
  split
  · exact h ..
  · exact ((setPort_frame ..).mono (by decide)).answer _ _ (by decide)
theorem execStatus_answers : Answers (execStatus s) [.host] s := request_answers (by decide) fun _ => respond_frame ..
theorem execNotices_answers : Answers (execNotices s) [.rep, .host] s :=
  request_answers (by decide) fun _ => ((((setRep_frame ..).trans (evalAlert_frame _)).mono (by decide)).respond _ _ _ (by decide))
theorem execView_answers (n : Byte) : Answers (execView n s) [.host, .freeIndex] s := by
  refine request_answers (by decide) fun s => (.ite ((answerOnly_frame ..).mono (by decide)) ?_)
  split
  · exact (answerOnly_frame ..).mono (by decide)
  · exact (ChangesOnly.ite ((setFreeIndex_frame ..).mono (by decide)) .refl).respond _ _ _ (by decide)
theorem execCatalogueRequest_answers (n i : Byte) : Answers (execCatalogueRequest n i s) [.host] s := by
  refine request_answers (by decide) fun s => ?_
  split
  · exact answerOnly_frame ..
  · refine .ite (answerOnly_frame ..) ?_
    dsimp only
    split <;> exact respond_frame ..
theorem execSnapshot_answers (c : Byte) : Answers (execSnapshot c s) [.rep, .host] s :=
  request_answers (by decide) fun s => (.ite ((answerOnly_frame ..).mono (by decide))
    (((setRep_frame ..).mono (by decide)).answer _ _ (by decide)))
theorem execCounters_answers : Answers (execCounters s) [.host] s := request_answers (by decide) fun _ => respond_frame ..
theorem execFaults_answers (n : Byte) : Answers (execFaults n s) [.host] s := by
  refine request_answers (by decide) fun s => ?_
  split
  · exact answerOnly_frame ..
  · split <;> exact respond_frame ..
theorem execFaultClear_answers (n : Byte) : Answers (execFaultClear n s) [.rep, .host] s := by
  refine request_answers (by decide) fun s => ?_
  split
  · exact (answerOnly_frame ..).mono (by decide)
  · exact ((setRep_frame ..).mono (by decide)).answer _ _ (by decide)
theorem execMask_answers (m : BitVec 16) (e : Byte) : Answers (execMask m e s) [.rep, .host] s :=
  request_answers (by decide) fun s => (.ite ((answerOnly_frame ..).mono (by decide))
    ((((setRep_frame ..).trans (evalAlert_frame _)).mono (by decide)).answer _ _ (by decide)))
theorem execBadRequest_answers (bytes : List Byte) (e : Bool) : Answers (execBadRequest bytes e s) [.host] s :=
  .next (takeBytes_frame ..)
theorem execHostRecordGap_answers (bytes : List Byte) : Answers (execHostRecordGap bytes s) [.host] s := .next (.ite (endGap_frame _) .refl)
theorem execHostReplySent_answers : Answers (execHostReplySent s) [.host] s := .next (.ite .refl (setHost_frame ..))

end

end Sys2Proof.Machine
end

