-- ==== Sys2Proof/Laws/Ops.lean ====
section
/-! SUPPORT. One lemma for each shared operation that says what it can do: records read back, characters and the receive
assembly, the idle count, queued frames, what a record given up owes, the checks of a frame, faults, requests, flag bytes, drive
changes, the fold of the guards and the relay chain. -/

namespace Sys2Proof.Machine

/-! ### Records read back -/

@[simp] theorem port_setPort (s : State) (p : Port) (r : PortRecord) : (s.setPort p r).port p = r := by
  simp [State.port, State.setPort]

theorem port_setPort_ne (s : State) {p q : Port} (r : PortRecord) (h : p ≠ q) : (s.setPort p r).port q = s.port q := by
  have h : p.val ≠ q.val := fun e => h (Fin.ext e)
  simp [State.port, State.setPort, Vector.getElem_set_ne, h]

@[simp] theorem peer_setPeer (s : State) (p : Node) (r : Peer) : (s.setPeer p r).peer p = r := by
  simp [State.peer, State.setPeer]

theorem peer_setPeer_ne (s : State) {p q : Node} (r : Peer) (h : p ≠ q) : (s.setPeer p r).peer q = s.peer q := by
  have h : p.val ≠ q.val := fun e => h (Fin.ext e)
  simp [State.peer, State.setPeer, Vector.getElem_set_ne, h]

@[simp] theorem selection_setSelection (s : State) (name : SelName) (r : Selection) :
    (s.setSelection name r).selection name = r := by cases name <;> rfl

theorem selection_setSelection_ne (s : State) {a b : SelName} (r : Selection) (h : a ≠ b) :
    (s.setSelection a r).selection b = s.selection b := by
  cases a <;> cases b <;> first | rfl | exact absurd rfl h

/-! ### The station bus (R19, R24, R28) -/

@[simp] theorem characterBits_length (framing : Bool) (b : Byte) : (characterBits framing b).length = 11 := by
  simp [characterBits]

/-- A character time is 176, 88 or 44 µs. -/
theorem characterTime_cases (rate : BusRate) :
    (rate = .r62500 ∧ characterTime rate = 176) ∨ (rate = .r125000 ∧ characterTime rate = 88) ∨
      (rate = .r250000 ∧ characterTime rate = 44) := by cases rate <;> decide

theorem characterTime_pos (rate : BusRate) : 0 < characterTime rate := by cases rate <;> decide

/-- A stray fragment is closed and counted once; without one nothing happens. -/
theorem closeStray_cases (s : State) :
    (s.bus.stray = [] ∧ closeStray s = s) ∨
      (s.bus.stray ≠ [] ∧ closeStray s = rejectOne (s.setBus { s.bus with stray := [] })) := by
  cases h : s.bus.stray with
  | nil => exact .inl ⟨rfl, by simp [closeStray, h]⟩
  | cons _ _ => exact .inr ⟨nofun, by simp [closeStray, h]⟩

/-- What a row's frame finds left in the assembly is counted once, and nothing else is. -/
theorem admitFrame_counts {s : State} (f : WireFrame) (h : s.bus.complete = none) :
    (leftBefore s f → (admitFrame s f).rep = (rejectOne s).rep) ∧ (¬ leftBefore s f → (admitFrame s f).rep = s.rep) := by
  unfold admitFrame leftBefore
  rw [h]
  cases ho : s.bus.openFrame with
  | some cs =>
    by_cases hp : cs <+: wireChars f
    · simp [hp]
    · simp [hp]
  | none =>
    cases ha : s.bus.afterComplete with
    | false => simp
    | true =>
      rcases closeStray_cases (s.setBus { s.bus with idle := 0, idleRest := 0 }) with ⟨hs, e⟩ | ⟨hs, e⟩
      all_goals
        simp only [if_true]
        rw [e]
        simp only [State.setBus_bus] at hs
        simp [hs, rejectOne, State.count]

/-- After a complete frame the assembly is empty and the bus is busy. -/
theorem closeFrame_bus (s : State) (f : WireFrame) :
    (closeFrame s f).bus.openFrame = none ∧ (closeFrame s f).bus.complete = none ∧
      (closeFrame s f).bus.afterComplete = true ∧ (closeFrame s f).bus.free = false := ⟨rfl, rfl, rfl, rfl⟩

/-- A tick adds the character times of a millisecond to the idle count of a free bus, and the rest stays below one. -/
theorem countIdle_bus (s : State) :
    (s.bus.free = false → (countIdle s).bus = s.bus) ∧
    (s.bus.free = true →
      (countIdle s).bus.idle * characterTime s.cfg.rate + (countIdle s).bus.idleRest =
          s.bus.idle * characterTime s.cfg.rate + s.bus.idleRest + 1000 ∧
        (countIdle s).bus.idleRest < characterTime s.cfg.rate) := by
  refine ⟨fun h => by simp [countIdle, h], fun h => ?_⟩
  simp only [countIdle, h, if_true, idleAfter, State.setBus_bus]
  refine ⟨?_, Nat.mod_lt _ (characterTime_pos _)⟩
  have := Nat.div_add_mod (s.bus.idleRest + 1000) (characterTime s.cfg.rate)
  rw [Nat.add_mul, Nat.mul_comm (_ / _)]
  omega

/-- Nothing is checked while no frame has closed. -/
theorem checkClosed_none {s : State} (h : s.bus.complete = none) : checkClosed s = s := by simp [checkClosed, h]

/-! ### The outbound queue (R32–R34) -/

/-- What queueing a frame does to the queue: it takes the waiting ROLL's place, is inserted, is inserted where a ROLL or else a
CATALOGUE was discarded under overrun, or is itself discarded. -/
theorem queueAfter_cases (f : QueuedFrame) (q : List QueuedFrame) :
    (f.isKind .roll = true ∧ q.any (waitingKind .roll) = true ∧ queueAfter f q = (replaceRoll f q, true, false)) ∨
    (q.length < Config.queuePlaces ∧ queueAfter f q = (insertFrame f q, true, false)) ∨
    (Config.queuePlaces ≤ q.length ∧ q.any (waitingKind .roll) = true ∧
      queueAfter f q = (insertFrame f (discardWaiting .roll q), true, true)) ∨
    (Config.queuePlaces ≤ q.length ∧ q.any (waitingKind .roll) = false ∧ q.any (waitingKind .catalogue) = true ∧
      queueAfter f q = (insertFrame f (discardWaiting .catalogue q), true, true)) ∨
    (Config.queuePlaces ≤ q.length ∧ q.any (waitingKind .roll) = false ∧ q.any (waitingKind .catalogue) = false ∧
      queueAfter f q = (q, false, true)) := by
  unfold queueAfter
  by_cases h1 : f.isKind .roll && q.any (waitingKind .roll)
  · exact .inl ⟨(Bool.and_eq_true _ _ ▸ h1).1, (Bool.and_eq_true _ _ ▸ h1).2, if_pos h1⟩
  rw [if_neg h1]
  by_cases h2 : q.length < Config.queuePlaces
  · exact .inr (.inl ⟨h2, if_pos h2⟩)
  rw [if_neg h2]
  refine .inr (.inr ?_)
  cases h3 : q.any (waitingKind .roll) with
  | true => exact .inl ⟨not_lt.mp h2, rfl, rfl⟩
  | false =>
    cases h4 : q.any (waitingKind .catalogue) with
    | true => exact .inr (.inl ⟨not_lt.mp h2, rfl, rfl, rfl⟩)
    | false => exact .inr (.inr ⟨not_lt.mp h2, rfl, rfl, rfl⟩)

@[simp] theorem enqueue_queue (s : State) (c : Content) (d : Byte) (o : Bool) :
    (enqueue s c d o).1.bus.queue = (queueAfter ⟨c, d, 0, none, o⟩ s.bus.queue).1 := by
  unfold enqueue
  dsimp only
  split <;> rfl

/-! ### Giving a record up (R92) -/

/-- A record given up owes a FREE when its home counts on it. -/
theorem freeDue_iff (s : State) (name : SelName) : (s.selection name).state.freeDue = true ↔ counted s name := by
  unfold counted
  cases (s.selection name).state <;> simp [SelState.freeDue]

/-- The FREE owed is the one to the peer home of a record that the home counts on. -/
theorem mem_freeOwed {s : State} {name : SelName} {e : Content × Byte} :
    e ∈ freeOwed s name ↔ ∃ a, (s.selection name).antenna = some a ∧ counted s name ∧ homeOf a ≠ s.node ∧
      e = (.free (portOf a) (useOf name) .release, byte (homeOf a).val) := by
  unfold freeOwed
  cases (s.selection name).antenna with
  | none => simp
  | some a => simp [and_assoc]

@[simp] theorem covers_tx (scope : Scope) : scope.covers .tx = scope.hasTx := rfl
@[simp] theorem covers_rx (scope : Scope) : scope.covers .rx = scope.hasRx := rfl

/-! ### The checks of a frame (R21, R26) -/

/-- A body's length fits its kind when it is right for the kind's code. -/
theorem lengthFits_iff (k : FrameKind) (body : List Byte) : lengthFits k body = true ↔ lengthRight k.code body := by
  cases k
  case hello | catalogue =>
    rcases body with _ | ⟨hi, _ | ⟨lo, _ | ⟨count, rest⟩⟩⟩ <;>
      simp [lengthFits, lengthRight, fixedLengths, FrameKind.code]
  all_goals simp [lengthFits, lengthRight, fixedLengths, FrameKind.code]

/-- What a lookup says of a claim is what the catalogues list. -/
theorem claimFault_iff (s : State) (asTx : Bool) (a : Antenna) : claimFault s asTx a = true ↔ claimsWrongly s asTx a := by
  unfold claimFault claimsWrongly lookup listedAt ownDescriptor
  dsimp only
  by_cases h : (homeOf a).val < s.cfg.nodes
  · by_cases ho : homeOf a = s.node
    · cases hc : s.cfg.antennas[portOf a] <;> simp_all
    · generalize s.learned[homeOf a] = l
      cases l.known
      · simp [h, ho, Nat.not_le.mpr h]
      · cases l.descriptors.find? (fun d => d.port == portOf a) <;> simp [h, ho, Nat.not_le.mpr h]
  · simp [h, Nat.not_lt.mp h]

/-! ### Faults (R178) -/

/-- The record of the source after a fault: a new one, or the old one with its collapse count raised. -/
theorem recordFault_record (s : State) (p : Node) (k : FaultKind) (fk : FrameKind) (q : Byte) :
    (s.recordFault p k fk q).rep.faults[p] =
      some (match s.rep.faults[p] with
        | none => ⟨k, fk, q, s.now, 0⟩
        | some r => { r with collapsed := min (r.collapsed + 1) Config.smallTop }) := by
  unfold State.recordFault
  split <;> simp_all [State.raise]

/-! ### Requests (R180, R181) -/

/-- Closing the record changes nothing where none is open. -/
theorem closeRecord_of_takes {s : State} (h : hostTakes s = true) : closeRecord s = s := by
  unfold hostTakes at h
  simp only [Bool.and_eq_true, Bool.not_eq_true', List.isEmpty_iff] at h
  obtain ⟨⟨-, ho⟩, hf⟩ := h
  unfold closeRecord
  rw [← ho, ← hf]
  rfl

/-- A port that takes a request hands it on as it stands. -/
theorem takeRequest_of_takes {s : State} (h : hostTakes s = true) (record : List Byte) (f : State → State) :
    takeRequest s record f = f s := by
  have c := closeRecord_of_takes h
  unfold hostTakes at h
  simp only [Bool.and_eq_true, Bool.not_eq_true', List.isEmpty_iff] at h
  obtain ⟨⟨⟨⟨hr, hd⟩, he⟩, ho⟩, hf⟩ := h
  simp [takeRequest, closesOpen, c, hr, hd, he, ho, hf]

/-- A request taken answers what its meaning makes of the state. -/
theorem request_of_takes {s : State} (h : hostTakes s = true) (kind : Byte) (body : List Byte) (f : State → State) :
    request s kind body f = .next (f s) := congrArg _ (takeRequest_of_takes h ..)

/-! ### Flags in replies (log entry 51) -/

@[simp] theorem flagByte_true : flagByte true = 1 := rfl

@[simp] theorem flagByte_false : flagByte false = 0 := rfl

/-- A flag byte tells the flag. -/
theorem flagByte_eq_one_iff (b : Bool) : flagByte b = 1 ↔ b = true := by cases b <;> simp

/-! ### The drive merger (R141–R144) -/

/-- A recompute that changes no output changes nothing. -/
theorem recomputed_same {s : State} {w : BitVec 32} (h : changedOutputs s.drv.word w = []) : recomputed s w = s.drv := by
  simp [recomputed, h]

/-- After a recompute the drive word is the word asked for. -/
theorem recomputed_word (s : State) (w : BitVec 32) : (recomputed s w).word = w := by
  unfold recomputed
  dsimp only
  split
  · next h =>
    refine BitVec.eq_of_getLsbD_eq fun i hi => ?_
    have h : changedOutputs s.drv.word w = [] := List.isEmpty_iff.mp h
    have := List.filter_eq_nil_iff.mp h ⟨i, hi⟩ ((List.mem_ofFn ..).mpr ⟨⟨i, hi⟩, rfl⟩)
    simpa using this
  · rfl

/-- A held-over end that is none or has passed leaves the local end as it is. -/
theorem foldedEnd_passed {d : Drive} {now : Tick} (h : passed d.heldEnd now = true) : foldedEnd d now = d.localEnd :=
  if_pos h

/-- A held-over end still to come makes the local end the later of the two. -/
theorem foldedEnd_later {d : Drive} {now : Tick} (h : passed d.heldEnd now = false) :
    foldedEnd d now = laterEnd d.localEnd d.heldEnd := if_neg (by simp [h])

/-! ### The relay chain (R148) -/

/-- The levels taken last stand lowest in the registers. -/
theorem run_clocks (c : Chain) (levels : List Bool) (i : Nat) (hi : i < 32) :
    (c.run (levels.map ChainPulse.clock)).register.getLsbD i =
      if i < levels.length then (levels.reverse[i]?).getD false else c.register.getLsbD (i - levels.length) := by
  induction levels generalizing c with
  | nil => simp [Chain.run]
  | cons b l ih =>
    rw [List.map_cons, Chain.run, List.foldl_cons, ← Chain.run, ih]
    by_cases h : i < l.length
    · simp [h, List.getElem?_append_left]
      omega
    · by_cases h' : i = l.length
      · subst h'
        simp [Chain.take]
      · have hl : ¬ i < l.length + 1 := by omega
        simp [Chain.take, BitVec.getLsbD_shiftConcat, h, hl]
        have e : i - l.length ≠ 0 := by omega
        have e2 : i - l.length < 32 := by omega
        have e3 : i - (l.length + 1) = i - l.length - 1 := by omega
        simp [e, e2, e3]

/-- The drivers keep their word until RLATCH is pulsed. -/
theorem run_clocks_drivers (c : Chain) (levels : List Bool) :
    (c.run (levels.map ChainPulse.clock)).drivers = c.drivers := by
  induction levels generalizing c with
  | nil => rfl
  | cons b l ih => exact ih _

/-- A shift and its latch leave the word in the drivers, whatever the chain held. -/
theorem run_latches (c : Chain) (word : BitVec 32) : (c.run (chainPulses word)).drivers = word := by
  have h : c.run (chainPulses word) = (c.run ((rdatLevels word).map ChainPulse.clock)).take .latch := by
    simp [Chain.run, chainPulses]
  rw [h]
  refine BitVec.eq_of_getLsbD_eq fun i hi => ?_
  have hr := run_clocks c (rdatLevels word) i hi
  have hl : (rdatLevels word).length = 32 := by simp [rdatLevels]
  rw [hl, if_pos hi] at hr
  refine hr.trans ?_
  have e : 31 - (31 - i) = i := by omega
  simp [rdatLevels, hi, e]

@[simp] theorem latchedBy_eq (drivers word : BitVec 32) : latchedBy drivers word = word := run_latches ..

/-- The drivers when a tick has passed: the word of the shift under way, or what they held. -/
theorem latchShift_latched (s : State) : (latchShift s).drv.latched = s.drv.shift.getD s.drv.latched := by
  unfold latchShift
  split <;> simp_all

end Sys2Proof.Machine
end

