-- ==== Sys2Proof/Laws/PerInstr.lean ====
section
/-! SUPPORT. A law for every command: the table gives its rows no bits, so no word spells it (98_reader.md). -/

namespace Sys2Proof.Laws.Unspelled

/-- No word of any length spells the command. -/
def Statement (i : Instr) : Prop := ∀ nbits w : Nat, decodeTableWord nbits w ≠ some i

/-- What holds of each command: the decoder answers none. -/
theorem of_any (i : Instr) : Statement i := fun _ _ h => nomatch h

theorem hardReset : ∀ straps byLine, Statement (.hardReset straps byLine) := fun _ _ => of_any _
theorem put : ∀ item index value, Statement (.put item index value) := fun _ _ _ => of_any _
theorem start : ∀ minute second, Statement (.start minute second) := fun _ _ => of_any _
theorem restart : Statement .restart := of_any _
theorem restartTakesEffect : Statement .restartTakesEffect := of_any _
theorem select : ∀ choice, Statement (.select choice) := fun _ => of_any _
theorem recallPair : Statement .recallPair := of_any _
theorem release : ∀ scope, Statement (.release scope) := fun _ => of_any _
theorem evict : ∀ node, Statement (.evict node) := fun _ => of_any _
theorem disable : ∀ port, Statement (.disable port) := fun _ => of_any _
theorem enable : ∀ port, Statement (.enable port) := fun _ => of_any _
theorem status : Statement .status := of_any _
theorem notices : Statement .notices := of_any _
theorem view : ∀ node, Statement (.view node) := fun _ => of_any _
theorem catalogueRequest : ∀ node index, Statement (.catalogueRequest node index) := fun _ _ => of_any _
theorem snapshot : ∀ clear, Statement (.snapshot clear) := fun _ => of_any _
theorem counters : Statement .counters := of_any _
theorem faults : ∀ node, Statement (.faults node) := fun _ => of_any _
theorem faultClear : ∀ node, Statement (.faultClear node) := fun _ => of_any _
theorem mask : ∀ mask enable, Statement (.mask mask enable) := fun _ _ => of_any _
theorem badRequest : ∀ bytes framingError, Statement (.badRequest bytes framingError) := fun _ _ => of_any _
theorem hostRecordGap (bytes : List Byte) : Statement (.hostRecordGap bytes) := of_any _
theorem hostReplySent : Statement .hostReplySent := of_any _
theorem bandSettle : Statement .bandSettle := of_any _
theorem pttPress : Statement .pttPress := of_any _
theorem pttRelease : Statement .pttRelease := of_any _
theorem keyWaitEnd : Statement .keyWaitEnd := of_any _
theorem ampStep : Statement .ampStep := of_any _
theorem inhibitStep : Statement .inhibitStep := of_any _
theorem tailAmpStep : Statement .tailAmpStep := of_any _
theorem tailEnd : Statement .tailEnd := of_any _
theorem busFree : Statement .busFree := of_any _
theorem frameAttemptStart : Statement .frameAttemptStart := of_any _
theorem readBackMismatch : ∀ index framing byte, Statement (.readBackMismatch index framing byte) := fun _ _ _ => of_any _
theorem frameSent : Statement .frameSent := of_any _
theorem frameRejected : ∀ frame, Statement (.frameRejected frame) := fun _ => of_any _
theorem frameAddressedElsewhere : ∀ frame, Statement (.frameAddressedElsewhere frame) := fun _ => of_any _
theorem frameContentBad : ∀ frame, Statement (.frameContentBad frame) := fun _ => of_any _
theorem frameReceivedHello : ∀ frame, Statement (.frameReceivedHello frame) := fun _ => of_any _
theorem frameReceivedCatalogue : ∀ frame, Statement (.frameReceivedCatalogue frame) := fun _ => of_any _
theorem frameReceivedRoll : ∀ frame, Statement (.frameReceivedRoll frame) := fun _ => of_any _
theorem frameReceivedAsk : ∀ frame, Statement (.frameReceivedAsk frame) := fun _ => of_any _
theorem frameReceivedGrant : ∀ frame, Statement (.frameReceivedGrant frame) := fun _ => of_any _
theorem frameReceivedWait : ∀ frame, Statement (.frameReceivedWait frame) := fun _ => of_any _
theorem frameReceivedRefuse : ∀ frame, Statement (.frameReceivedRefuse frame) := fun _ => of_any _
theorem frameReceivedFreeRelease : ∀ frame, Statement (.frameReceivedFreeRelease frame) := fun _ => of_any _
theorem frameReceivedFreeFromHome : ∀ frame, Statement (.frameReceivedFreeFromHome frame) := fun _ => of_any _
theorem frameReceivedBid : ∀ frame, Statement (.frameReceivedBid frame) := fun _ => of_any _
theorem frameReceivedTxon : ∀ frame, Statement (.frameReceivedTxon frame) := fun _ => of_any _
theorem frameReceivedTxoff : ∀ frame, Statement (.frameReceivedTxoff frame) := fun _ => of_any _
theorem frameReceivedDrop : ∀ frame, Statement (.frameReceivedDrop frame) := fun _ => of_any _
theorem rollDue : Statement .rollDue := of_any _
theorem peerTimeout : ∀ node, Statement (.peerTimeout node) := fun _ => of_any _
theorem orphanHoldExpiry : ∀ node, Statement (.orphanHoldExpiry node) := fun _ => of_any _
theorem listenInEnd : Statement .listenInEnd := of_any _
theorem isolationTimeout : Statement .isolationTimeout := of_any _
theorem replyDeadline : ∀ record, Statement (.replyDeadline record) := fun _ => of_any _
theorem windowEnd : Statement .windowEnd := of_any _
theorem bidRecordExpiry : ∀ node, Statement (.bidRecordExpiry node) := fun _ => of_any _
theorem hangEnd : Statement .hangEnd := of_any _
theorem hourBoundary : Statement .hourBoundary := of_any _
theorem chainRefresh : Statement .chainRefresh := of_any _
theorem busBusy : ∀ framing byte, Statement (.busBusy framing byte) := fun _ _ => of_any _
theorem framingBitInsideFrame : ∀ byte, Statement (.framingBitInsideFrame byte) := fun _ => of_any _
theorem bandLinesChange : ∀ code, Statement (.bandLinesChange code) := fun _ => of_any _
theorem resetReleased : Statement .resetReleased := of_any _

end Sys2Proof.Laws.Unspelled
end

