-- ==== Sys2Proof/WellFormed.lean ====
section
/-! DEFINITION. Which commands the outside can spell: the checks that no field's type makes. -/

namespace Sys2Proof

/-- A frame closes complete at 7 plus its body length, so its body has the length the header gives (R24). -/
def WireFrame.complete (f : WireFrame) : Bool := f.body.length == f.length.toNat

/-- The longest host record: kind, length, 40 body bytes and checksum (R180). -/
abbrev recordLimit : Nat := Config.requestBody + 3

/-- What a command must satisfy to be one that can arrive. -/
def Instr.wellFormed : Instr → Bool
  | .put _ _ value => decide (value.length + 2 ≤ Config.requestBody)
  | .badRequest bytes _ => decide (bytes ≠ [] ∧ bytes.length ≤ recordLimit)
  | .hostRecordGap bytes => decide (bytes.length < recordLimit)
  | .readBackMismatch index _ _ => decide (index < 74)
  | .frameRejected f | .frameAddressedElsewhere f | .frameContentBad f
  | .frameReceivedHello f | .frameReceivedCatalogue f | .frameReceivedRoll f | .frameReceivedAsk f
  | .frameReceivedGrant f | .frameReceivedWait f | .frameReceivedRefuse f | .frameReceivedFreeRelease f
  | .frameReceivedFreeFromHome f | .frameReceivedBid f | .frameReceivedTxon f | .frameReceivedTxoff f
  | .frameReceivedDrop f => f.complete
  | .hardReset _ _ | .start _ _ | .restart | .restartTakesEffect | .select _ | .recallPair | .release _ | .evict _
  | .disable _ | .enable _ | .status | .notices | .view _ | .catalogueRequest _ _ | .snapshot _ | .counters
  | .faults _ | .faultClear _ | .mask _ _ | .hostReplySent | .bandSettle | .pttPress | .pttRelease | .keyWaitEnd
  | .ampStep | .inhibitStep | .tailAmpStep | .tailEnd | .busFree | .frameAttemptStart | .frameSent | .rollDue
  | .peerTimeout _ | .orphanHoldExpiry _ | .listenInEnd | .isolationTimeout | .replyDeadline _ | .windowEnd
  | .bidRecordExpiry _ | .hangEnd | .hourBoundary | .chainRefresh | .busBusy _ _ | .framingBitInsideFrame _
  | .bandLinesChange _ | .resetReleased => true

end Sys2Proof
end

