-- ==== Sys2Proof/Tests/Slice0.lean ====
section
/-! SUPPORT. The tests of the model on the spec's own values, and for each statement a concrete state and operands that meet
its hypotheses. -/

namespace Sys2Proof.Tests

/- The theorems are taken one after another: each has the kernel evaluate, and many at once would wait for one another. -/
set_option Elab.async false

open Sys2Proof Sys2Proof.Machine

/-! ### Well-formedness -/

/-- A frame whose header gives one body character more than it has. -/
def shortFrame : WireFrame := ⟨12, 1, 0, 255, 1, [], 0⟩

theorem test_wellFormed_put_too_long : (Instr.put 1 0 (List.replicate 39 0)).wellFormed = false := by decide +kernel
theorem test_wellFormed_no_bytes : (Instr.badRequest [] false).wellFormed = false := by decide +kernel
theorem test_wellFormed_record_too_long : (Instr.badRequest (List.replicate 44 0) false).wellFormed = false := by decide +kernel
theorem test_wellFormed_gap_behind_record : (Instr.hostRecordGap (List.replicate 43 0)).wellFormed = false := by decide +kernel
theorem test_wellFormed_no_such_character : (Instr.readBackMismatch 74 false 0).wellFormed = false := by decide +kernel
theorem test_wellFormed_short_frames :
    ([Instr.frameRejected, .frameAddressedElsewhere, .frameContentBad, .frameReceivedHello, .frameReceivedCatalogue,
      .frameReceivedRoll, .frameReceivedAsk, .frameReceivedGrant, .frameReceivedWait, .frameReceivedRefuse,
      .frameReceivedFreeRelease, .frameReceivedFreeFromHome, .frameReceivedBid, .frameReceivedTxon,
      .frameReceivedTxoff, .frameReceivedDrop].all (fun row => !(row shortFrame).wellFormed)) = true := by decide +kernel

/-! ### Values the spec works out -/

/-- R180, worked records: 0A 00 F6, 01 03 01 00 06 F5 and 02 02 28 00 D4 are good records. -/
theorem test_worked_records :
    recordBad Store.reset [0x0A, 0, 0xF6] = false ∧ recordBad Store.reset [1, 3, 1, 0, 6, 0xF5] = false ∧
      recordBad Store.reset [2, 2, 0x28, 0, 0xD4] = false := by decide +kernel

/-- R180: a record whose sum is not 0, one of an unknown kind, and one of a wrong length are bad. -/
theorem test_bad_records :
    recordBad Store.reset [0x0A, 0, 0xF7] = true ∧ recordBad Store.reset [0x13, 0, 0xED] = true ∧
      recordBad Store.reset [0x0A, 1, 0, 0xF5] = true := by decide +kernel

/-- R180: the OK reply to a PUT is 81 00 00 7F. -/
theorem test_put_reply_bytes : Reply.bytes ⟨0x81, .ok, []⟩ = [0x81, 0, 0, 0x7F] := by decide +kernel

/-- R180, worked records: the same bytes are what the requests bring. -/
theorem test_request_bytes :
    requestBytes 0x0A [] = [0x0A, 0, 0xF6] ∧ requestBytes 1 [1, 0, 6] = [1, 3, 1, 0, 6, 0xF5] ∧
      requestBytes 2 [0x28, 0] = [2, 2, 0x28, 0, 0xD4] := by decide +kernel

/-- R148: of a word with outputs 31 and 1 on, the first level is high, the 31st is high and the last is low. -/
theorem test_rdat_levels :
    let l := rdatLevels 0x80000002
    l.length = 32 ∧ l[0]? = some true ∧ l[1]? = some false ∧ l[30]? = some true ∧ l[31]? = some false := by decide +kernel

/-- R144: a held-over end that has passed leaves the local end; one still to come moves it (230 is the later of 16 and
230). -/
theorem test_fold :
    let d := { State.reset.drv with localEnd := some 16, heldEnd := some 230 }
    foldedEnd d 230 = some 16 ∧ foldedEnd { d with localEnd := none } 231 = none ∧ foldedEnd d 229 = some 230 := by
  decide +kernel

/-- R133: START at 40 minutes puts the first boundary 1 200 000 ms on, and 00:00 a full hour on. -/
theorem test_first_hour : toFirstHour 40 0 = 1200000 ∧ toFirstHour 0 0 = 3600000 := by decide +kernel

/-- R188: tick comparison across the wrap of the timebase. -/
theorem test_later_across_wrap : later 5 0xFFFFFFF0#32 = true ∧ later 0xFFFFFFF0#32 5 = false := by decide +kernel

/-- R43: two frames lost between sequence 254 and 1. -/
theorem test_frames_lost_across_wrap : framesLost 254 1 = 2 := by decide +kernel

/-- R13: code 7 is 6 m, codes 0, 8 and 15 are NONE. -/
theorem test_band_codes : [7#4, 0#4, 8#4, 15#4].map decodeBand = [7, 0, 0, 0] := by decide +kernel

/-- R1: antenna 83 is port 3 of node 5. -/
theorem test_antenna_id : homeOf 83 = 5 ∧ portOf 83 = 3 ∧ antennaAt 5 3 = 83 := by decide +kernel

/-- R28: the urgent, normal and retry gaps of node 4 are 6, 16 and 24 character times. -/
theorem test_access_gaps :
    [⟨.drop 1, 255, 0, none, false⟩, ⟨.ask 0 .tx 1 .run, 2, 0, none, false⟩, ⟨.drop 1, 255, 1, some 0, false⟩].map
      (accessGap 4) = [6, 16, 24] := by decide +kernel

/-- R22: the body of TXON(20 m, antenna 52), and of GRANT(port 3, TX, settle 18). -/
theorem test_bodies : (Content.txon 4 52).body = [4, 52] ∧ (Content.grant 3 .tx 18).body = [3, 0, 18] := by decide +kernel

/-- R26: settle 71, place 9, reason 6, cause 4, band 8 and class 3 are out of range. -/
theorem test_out_of_range_bodies :
    contentOf .grant [0, 0, 71] = none ∧ contentOf .wait [0, 9] = none ∧ contentOf .refuse [0, 6] = none ∧
      contentOf .free [0, 0, 4] = none ∧ contentOf .bid [8, 0, 0] = none ∧ contentOf .ask [0, 0, 1, 3] = none := by
  decide

/-- R8: a TX-kind descriptor with share 2, and ports out of order. -/
theorem test_bad_descriptors :
    contentOf .catalogue [0, 0, 1, 3, 0x10, 0x10, 0] = none ∧
      contentOf .catalogue [0, 0, 2, 3, 0x10, 0, 0, 2, 0x10, 0, 0] = none := by decide +kernel

/-- R142, R137: an output of class (15, 8, 5) that goes on settles in 20 ms, and one that goes off in 8 ms. -/
theorem test_settle :
    let cfg := { Store.reset with relayClasses := Store.reset.relayClasses.set 0 ⟨15, 8, 5⟩ }
    settleOf cfg 1 [0] = 20 ∧ settleOf cfg 0 [0] = 8 := by decide +kernel

/-- R99: a fifth pair drops the bottom entry, and an equal pair is not pushed. -/
theorem test_stack :
    pushPair (0, 16) [(1, 16), (2, 16), (3, 16), (4, 16)] = [(0, 16), (1, 16), (2, 16), (3, 16)] ∧
      pushPair (1, 16) [(1, 16)] = [(1, 16)] := by decide +kernel

/-- R117: a better class wins whatever the node; within a class the lower node wins. -/
theorem test_ranks :
    betterRank .run 7 .mult 0 = true ∧ betterRank .mult 1 .mult 2 = true ∧ betterRank .aux 0 .mult 7 = false := by decide +kernel

/-! ### States -/

/-- A station of four nodes at 125 000 bit/s, with a TX antenna on port 0 and an RX antenna with share 2 on port 1. -/
def store : Store :=
  { Store.reset with
    nodes := 4
    rate := .r125000
    bandLimit := Store.reset.bandLimit.set 4 1
    signalLimit := 2
    cls := .mult
    hang := 300
    d1 := 10
    d2 := 15
    margin := 5
    antennas := (Store.reset.antennas.set 0 (some ⟨⟨0, 0x38, .tx, 1, 2, 0⟩, [(0, true)]⟩)).set 1
      (some ⟨⟨1, 0x38, .rx, 2, 0, 0⟩, [(1, true)]⟩)
    entries := (Store.reset.entries.set 0 (some 0)).set 1 (some 16) }

/-- Peer node 1, CURRENT with sequence 7, a RUN position. -/
def peerOne : Peer :=
  { Peer.reset with
    state := .current, sequence := 7, lastKind := .roll, lastFrame := 900,
    roll := some ⟨true, .position, .run, false, false, false, 4, none, none, .free, .free, 0, 0, 0x1234⟩ }

/-- The TX record GRANTED the own port 0. -/
def grantedTx : Selection := ⟨.granted, some 0, some 0, none, none, none, some 500, none⟩

/-- Node 0 in ACTIVE on 20 m at tick 1000, in RECEIVE, with its own port 0 granted for TX and RX on FOLLOW. -/
def ground : State :=
  { State.reset with
    now := 1000
    mode := .active
    lines := ⟨0, 4, false⟩
    cfg := store
    digest := some 0x1234
    band := ⟨4, 4, 4, 0⟩
    bus := { Bus.reset with allowance := some 11, free := true, nextRoll := some 1001 }
    tracker := ⟨resetPeers.set 1 peerOne, none, 900, false, false⟩
    arb := ⟨Arbiter.reset.ports.set 0 ⟨false, [⟨0, ⟨true, false⟩, true, false, 0⟩], [], false, ⟨false, false⟩⟩, 0⟩
    sel := { SelectionUnit.reset with tx := grantedTx, rx := { Selection.reset with choice := some 16 } }
    drv := { State.reset.drv with word := 1, latched := 1, refreshAt := 1100 } }

/-- The state with its sequencer replaced. -/
def keyed (state : KeyState) (amp : Bool) (key : Keying := ground.key) : State :=
  ground.setKey { key with
    state := state, amp := amp, level := true, inhibit := state != .transmit,
    stepProtect := state == .stepUp || state == .transmit || state == .stepDown }

/-- Two samples have shown a press: one is due. -/
def pressed (s : State) : State := s.setKey { s.key with sample := true, previous := true }

/-- The own tokens KEYED on 20 m with antenna 0. -/
def heldTokens : Tokens := ⟨.keyed, some 4, some 0, false, none, none⟩

/-- On the air: TRANSMIT with the tokens KEYED. -/
def onAir : State := evalOutputs ((keyed .transmit true).setTok heldTokens)

/-- The band lines have shown code 5 for 20 ticks. -/
def bandMoved (s : State) : State := s.setBand { s.band with candidate := 5, start := 980 }

/-- A frame of peer 1 with sequence 8. -/
def fromOne (c : Content) (destination : Byte := if c.kind.broadcast then 255 else 0) : WireFrame :=
  frameOf 0 1 8 destination c

/-- The queue of the bus replaced. -/
def withQueue (q : List QueuedFrame) (s : State := ground) : State := s.setBus { s.bus with queue := q }

/-- The queue has its 12 frames, none of which gives way. -/
def full (s : State) : State := withQueue (List.replicate 12 ⟨.drop 4, 255, 0, none, false⟩) s

/-- The one descriptor of peer 1's catalogue. -/
def oneDescriptor : List Descriptor := [⟨15, 0x10, .tx, 1, 2, 7⟩]

/-- A ROLL of peer 1 that lists one antenna. -/
def rollOfOne (tx : Option Antenna) : Roll :=
  ⟨false, .position, .run, false, false, false, 4, tx, none, .free, .free, 0, 0, 0x1234⟩

/-- Peer 1 listens on its antenna 31, which is coupled to the own port 0. -/
def listenedTo : State :=
  (learn ground 1 oneDescriptor).setPeer 1 { peerOne with roll := some { rollOfOne none with rx := some 31 } }

/-- The state that a meaning answers. -/
def ran (c : Instr) (s : State) : State :=
  match exec c s with
  | .next t => t
  | _ => s

/-! ### Witnesses: the machine -/

theorem witness_StepRunsFrontCommand : (ground.setPending [.status, .notices]).pending = .status :: [.notices] := by
  decide

theorem witness_EmptyQueueTakesDueEventOrTick :
    (ground.pending = [] ∧ (ground.setInReset true).inReset = true) ∧
      (ground.inReset = false ∧ nextDue (ground.setNow 1001) = some .rollDue) ∧
      (ground.inReset = false ∧ nextDue ground = none) ∧
      (let s := ground.setBus { ground.bus with free := false }; s.bus.free = false ∧ nextDue s = none) := by
  decide +kernel

theorem witness_SessionConstantsHold :
    ground.mode ≠ .setup ∧ exec .hostReplySent ground = .next (ground.setHost { ground.host with replies := [] }) :=
  ⟨by decide +kernel, rfl⟩

theorem witness_OutputsFitKeyingState :
    outputsFit onAir.key ∧ outputsFit (keyed .stepUp true).key ∧
      outputsFit (keyed .stepUp false { ground.key with ampAt := some 1010 }).key ∧
      outputsFit (keyed .stepDown true { ground.key with ampAt := some 1015 }).key ∧ ∃ t, step onAir = .next t := by
  refine ⟨?_, ?_, ?_, ?_, _, rfl⟩
  · show onAir.key.inhibit = false ∧ onAir.key.amp = true ∧ onAir.key.stepProtect = true
    decide +kernel
  all_goals exact ⟨rfl, by decide, rfl⟩

theorem witness_TransmitStaysBacked :
    transmitBacked onAir ∧ noGuardRuns onAir ∧ onAir.drv.localEnd ≠ some (onAir.now + 2147483648) ∧
      onAir.sel.tx.guardEnd ≠ some (onAir.now + 2147483648) ∧ ∃ t, step onAir = .next t := by
  refine ⟨⟨fun _ => rfl, fun _ => rfl, fun _ => ⟨rfl, rfl⟩⟩, ⟨fun _ => ⟨nofun, fun e h => ?_⟩, nofun⟩, by decide +kernel,
    by decide +kernel, _, rfl⟩
  obtain rfl : (500 : Tick) = e := Option.some.inj h
  decide +kernel

theorem witness_SetupStaysQuiet : setupQuiet (State.hardReset ⟨3, 4, true⟩ true) ∧ setupQuiet onAir :=
  ⟨fun _ => ⟨rfl, rfl, rfl, rfl, .inl rfl⟩, fun h => absurd h (by decide +kernel)⟩

/-- A queue with a frame in flight, an urgent frame, a normal one and a ROLL. -/
def mixedQueue : List QueuedFrame :=
  [⟨.ask 0 .tx 4 .mult, 1, 2, some 9, false⟩, ⟨.drop 4, 255, 0, none, false⟩, ⟨.free 0 .tx .release, 1, 0, none, false⟩,
    ⟨.roll (rollNow ground), 255, 0, none, false⟩]

theorem witness_OutboundQueueKeepsOrder :
    queueOrdered { ground.bus with queue := mixedQueue, driving := true } :=
  ⟨by decide +kernel, by decide +kernel, by decide +kernel, by decide +kernel, fun _ => ⟨_, _, rfl, by decide +kernel⟩⟩

theorem witness_DriveWordIsMerge : onAir.drv.word = mergedWord onAir ∧ onAir.drv.word = 1 := by decide +kernel

/-- The law of R70 by looking at every port. -/
theorem sharesKept_of {s : State}
    (h : ∀ p, (match ownDescriptor s p with
      | some d => decide ((s.port p).holders.length ≤ d.share)
      | none => (s.port p).holders.isEmpty) = true)
    (g : ∀ p q, p ≠ q → feedlineOf s p ≠ 0 → feedlineOf s p = feedlineOf s q →
      (s.port p).holders = [] ∨ (s.port q).holders = []) : sharesKept s := by
  refine ⟨fun p d e => ?_, fun p e => ?_, g⟩
  · have := h p
    rw [e] at this
    exact of_decide_eq_true this
  · have := h p
    rw [e] at this
    exact List.isEmpty_iff.mp this

theorem ground_feedlines : ∀ p, feedlineOf onAir p = 0 := by decide +kernel

/-- The own port 1 held by peer 1, with a waiter of each class. -/
def queuedUp : State :=
  ground.setPort 1 ⟨false, [⟨1, ⟨false, true⟩, true, false, 0⟩],
    [⟨3, ⟨false, true⟩, .run, 2⟩, ⟨2, ⟨false, true⟩, .mult, 1⟩, ⟨0, ⟨false, true⟩, .aux, 0⟩], false, ⟨false, false⟩⟩

theorem witness_SharesStayKept : setupQuiet onAir ∧ sharesKept onAir ∧ waitsKept queuedUp :=
  ⟨fun h => absurd h (by decide +kernel),
    sharesKept_of (by decide +kernel) (fun p _ _ h => absurd (ground_feedlines p) h), by unfold waitsKept; decide +kernel⟩

theorem witness_OutputsFollowRecords :
    (setupQuiet onAir ∧ outputsFollow onAir) ∧
      (let s := evalOutputs (ground.setNow 1650);
        (ran (.peerTimeout 1) s).rep.levels.getLsbD 2 ≠ s.rep.levels.getLsbD 2 ∧
          (ran (.peerTimeout 1) s).rep.levels.getLsbD 0 = s.rep.levels.getLsbD 0) ∧
      (let s := evalOutputs (ground.setPeer 1 { peerOne with state := .silent });
        s.rep.levels.getLsbD 2 = true ∧
          (ran (.frameReceivedDrop (fromOne (.drop 4))) s).rep.levels.getLsbD 2 ≠ s.rep.levels.getLsbD 2) :=
  ⟨⟨fun h => absurd h (by decide +kernel), by decide +kernel, by decide +kernel, by decide +kernel⟩, by decide +kernel,
    by decide +kernel⟩

theorem witness_countsInRange : countsInRange onAir :=
  ⟨fun c => by cases c <;> decide, fun c => by cases c <;> decide,
    fun n f h => absurd h (by
      have : ∀ m : Node, onAir.rep.faults[m] = none := by decide +kernel
      rw [this n]
      exact nofun),
    by decide +kernel, fun b => by
      have : ∀ c : Band, onAir.sel.memory[c] = [] := by decide +kernel
      rw [this b]
      exact ⟨by decide +kernel, .nil⟩⟩

/-- The numbers of the store that need no look at a port or a band. -/
theorem reset_numbers_inRange :
    let cfg := Store.reset
    (2 ≤ cfg.nodes ∧ cfg.nodes ≤ 8) ∧ (∀ b : Band, cfg.bandLimit[b] ≤ 3) ∧ (1 ≤ cfg.signalLimit ∧ cfg.signalLimit ≤ 8) ∧
      cfg.hang ≤ 30000 ∧ cfg.d1 ≤ 50 ∧ cfg.d2 ≤ 50 ∧ cfg.margin ≤ 20 ∧ (5 ≤ cfg.orphanHold ∧ cfg.orphanHold ≤ 120) ∧
      cfg.dwell ≤ 60 ∧ cfg.hourLimit ≤ 30 ∧
      (∀ k : Fin 4, 1 ≤ cfg.relayClasses[k].operate ∧ cfg.relayClasses[k].operate ≤ 40 ∧
        1 ≤ cfg.relayClasses[k].release ∧ cfg.relayClasses[k].release ≤ 40 ∧ cfg.relayClasses[k].bounce ≤ 10) := by
  decide +kernel

theorem witness_StoreStaysInRange : Store.reset.inRange := by
  obtain ⟨h1, h2, h3, h4, h5, h6, h7, h8, h9, h10, h11⟩ := reset_numbers_inRange
  refine ⟨h1, h2, h3, h4, h5, h6, h7, h8, h9, h10, h11, fun p c h => ?_, fun b => ?_, ?_⟩
  · have none_set : ∀ q : Port, Store.reset.antennas[q] = none := by decide +kernel
    simp [none_set p] at h
  · have empty : ∀ c : Band, Store.reset.bandPatterns[c] = [] := by decide +kernel
    simp [patternInRange, empty b]
  · decide +kernel

theorem witness_CountsAndStacksBounded :
    countsInRange onAir ∧ Store.reset.inRange ∧ driveInRange State.reset ∧ guardsWithin State.reset ∧
      guardsWithin onAir := by
  refine ⟨witness_countsInRange, witness_StoreStaysInRange, ⟨fun _ => ⟨rfl, rfl⟩, fun _ h => nomatch h⟩, ?_, ?_⟩
  all_goals unfold guardsWithin; decide +kernel

theorem witness_HeldResetKeepsOutputs : heldAtReset (State.hardReset ⟨3, 4, true⟩ true) :=
  fun _ => ⟨rfl, rfl, rfl, rfl, rfl, rfl, rfl, rfl⟩

theorem witness_HeldResetTakesOnlyPins :
    (State.hardReset ⟨3, 4, true⟩ true).inReset = true ∧ Instr.pttPress ≠ .resetReleased := by decide +kernel

theorem witness_BandLinesRestartCandidate :
    (ground.inReset = false ∧ ground.band.start ≠ ground.now ∧ after ground.band.start 20 ≠ ground.now) ∧
      (ground.setBand { ground.band with start := 1000 }).band.start = ground.now ∧
      (let s := ground.setBand { ground.band with start := 980 };
        s.band.candidate = s.band.settled ∧ after s.band.start 20 = s.now) := by decide +kernel

theorem witness_BandSettleDecodesCode :
    (bandMoved ground).inReset = false ∧ (bandMoved ground).band.candidate ≠ (bandMoved ground).band.settled ∧
      reached (after (bandMoved ground).band.start 20) (bandMoved ground).now = true ∧
      (bandMoved ground).isTower = false := by decide +kernel

/-- What a band change at a position asks of the state. -/
abbrev bandTurns (s : State) : Prop :=
  s.inReset = false ∧ s.isTower = false ∧ s.band.candidate ≠ s.band.settled ∧
    reached (after s.band.start 20) s.now = true ∧ decodeBand s.band.candidate ≠ s.band.decoded

/-- Both records name antennas of node 1, and the tokens are HANGING. -/
def bothAway (s : State) : State :=
  (s.setTok ⟨.hanging, some 4, some 31, false, none, some 1200⟩).setSel
    { s.sel with
      tx := ⟨.granted, some 0, some 31, none, none, none, some 500, none⟩
      rx := ⟨.waiting, some 8, some 30, none, some 2, none, none, none⟩ }

theorem witness_BandChangeEndsKeydown :
    ([onAir, keyed .stepUp true, keyed .stepUp false, keyed .keyWait false].all
      (fun s => decide (bandTurns (bandMoved s) ∧ s.mode = .active ∧ s.key.state.keyed = true)) = true) ∧
      ([ground, keyed .lockout false, keyed .stepDown true].all
        (fun s => decide (bandTurns (bandMoved s) ∧ s.mode = .active ∧ s.key.state.keyed = false)) = true) ∧
      (let s := bothAway (bandMoved ground);
        bandTurns s ∧ s.mode = .active ∧ s.tok.state ≠ .free ∧ s.tok.band = some 4 ∧ hasRoom s ∧
        freeOwed s .tx = [(.free 15 .tx .release, 1)] ∧ freeOwed s .rx = [(.free 14 .listen .release, 1)] ∧
        noneDeferred s ∧ (∀ q, (s.port q).waits = []) ∧ s.bus.queue.length < 8) ∧
      (let s := ground.setBand { ground.band with candidate := 9, start := 980 };
        bandTurns s ∧ s.mode = .active ∧ decodeBand s.band.candidate = 0 ∧ s.sel.tx.antenna = some 0 ∧
        counted s .tx ∧ homeOf 0 = s.node ∧
        holderOf s s.node (portOf 0) = some ⟨0, Uses.of .tx, true, false, 0⟩ ∧ noneDeferred s ∧
        (∀ q, (s.port q).waits = [])) ∧
      (let s := (bothAway (bandMoved ground)).setCfg { store with entries := store.entries.set 0 (some 31) };
        let moved := s.setBand { s.band with decoded := 5 };
        decodeBand s.band.candidate = 5 ∧ choiceOnEntry s 5 .tx = 0 ∧ choiceOnEntry s 5 .rx = 16 ∧
        entryOf moved 5 0 = some (some 31) ∧ localCheck moved .tx (some 31) = none ∧ homeOf 31 ≠ s.node) ∧
      (let s := (bandMoved ground).setSel { ground.sel with memory := ground.sel.memory.set 5 [(7, 15)] };
        let moved := s.setBand { s.band with decoded := 5 };
        bandTurns s ∧ choiceOnEntry s 5 .tx = 7 ∧ choiceOnEntry s 5 .rx = 15 ∧ entryOf moved 5 7 = some none ∧
        entryOf moved 5 15 = some none ∧ localCheck moved .tx none = some .emptyChoice) ∧
      ∀ mode ∈ [Mode.listenIn, .setup],
        let s := (bandMoved ground).setMode mode;
        bandTurns s ∧ s.mode ≠ .active ∧ s.key.state.keyed = false ∧ s.tok.state = .free ∧ noneDeferred s := by
  refine ⟨?_, ?_, ?_, ?_, ?_, ?_, ?_⟩ <;> decide +kernel

/-- R100, R127: the DROP leads, then the FREEs TX first, then the ASK of the new band's TX choice; FOLLOW asks nothing. -/
theorem test_bandSettle_frames :
    let s := (bothAway (bandMoved ground)).setCfg { store with entries := store.entries.set 0 (some 31) }
    (ran .bandSettle s).bus.queue.map QueuedFrame.content =
      [.drop 4, .free 15 .tx .release, .free 14 .listen .release, .ask 15 .tx 5 .mult] := by decide +kernel

/-! ### Witnesses: keying -/

/-- One state for each check of R155 that fails first. -/
def refusing : List (State × LockReason) :=
  [(ground.setMode .listenIn, .starting), (ground.setHost { ground.host with restartHeld := true }, .starting),
    (ground.setBand { ground.band with decoded := 0 }, .noBand), (ground.setSel SelectionUnit.reset, .noAntenna),
    (ground.setCfg { store with bandLimit := Store.reset.bandLimit }, .bandClosed),
    (ground.setPeer 1 { peerOne with mismatch := true }, .rules),
    (ground.setTracker { ground.tracker with isolated := true }, .isolated),
    ((ground.setCfg { store with hourLimit := 1, govMode := .enforce }).setGov ⟨some 5, none, 1, none⟩, .governor)]

/-- The node in the TOWER role. -/
def towered (s : State) : State := s.setCfg { s.cfg with role := .tower }

theorem witness_PressRefusedInOrder :
    (∀ e ∈ refusing, (pressed e.1).inReset = false ∧ pttShows (pressed e.1) true ∧ (pressed e.1).isTower = false ∧
      (pressed e.1).key.state = .receive ∧ refusedFor (pressed e.1) e.2) ∧
      (∀ s ∈ [towered ground, ground.setKey { (keyed .lockout false).key with level := false },
          ground.setKey { (keyed .stepDown true).key with level := false }],
        (pressed s).inReset = false ∧ pttShows (pressed s) true ∧ (s.isTower = true ∨ s.key.state ≠ .receive) ∧
          settled (pressed s)) ∧
      ¬ pttShows ground true := by
  unfold refusedFor
  decide +kernel

theorem witness_PressEntersKeyWait :
    ([ground, listenedTo, ground.setTok ⟨.bidding, some 4, some 2, true, none, none⟩, full ground,
      listenedTo.setTok ⟨.bidding, some 4, some 0, true, none, none⟩,
      listenedTo.setTok ⟨.bidding, some 4, some 0, false, some 1005, none⟩,
      ((ground.setCfg { store with hourLimit := 1, govMode := .warn }).setGov ⟨some 5, none, 1, none⟩)].map pressed).map
      (fun s => (decide (keydownPasses s 0 ∧ noneDeferred s ∧ nothingPending s), leadOf s 0, s.bus.queue.length,
        decide (s.cfg.govMode = .warn ∧ governorFails s = true))) =
      [(true, 0, 0, false), (true, 11, 0, false), (true, 0, 0, false), (true, 0, 12, false), (true, 11, 0, false),
        (true, 11, 0, false), (true, 0, 0, true)] := by decide +kernel

/-- The own tokens HANGING on 20 m with antenna 0. -/
def hanging (s : State) : State := s.setTok ⟨.hanging, some 4, some 0, false, none, some 1200⟩

/-- The node isolated, under the LOCAL policy. -/
def alone (s : State) : State :=
  (s.setCfg { s.cfg with policy := .localKeying }).setTracker { s.tracker with isolated := true }

theorem witness_PressFromHangingKeysAtOnce :
    (let s := hanging (pressed ground); keydownPasses s 0 ∧ noneDeferred s ∧ s.bus.queue.length < 12) ∧
      (let s := full (hanging (pressed listenedTo));
        keydownPasses s 0 ∧ noneDeferred s ∧ nothingPending s ∧ leadOf s 0 ≠ 0 ∧ s.bus.queue.length = 12) ∧
      (let s := alone (pressed ground);
        isolatedPasses s 0 ∧ noneDeferred s ∧ s.tok.state = .free ∧ bandCount s 4 < s.cfg.bandLimit[(4 : Band)] ∧
        signalCount s < s.cfg.signalLimit) ∧
      isolatedPasses (hanging (alone (pressed ground))) 0 ∧
      (let s := alone ((pressed ground).setPeer 1 { peerOne with bandToken := .hanging, signalToken := .hanging, tokenBand := 4 });
        isolatedPasses s 0 ∧ s.tok.state = .free ∧ s.cfg.bandLimit[(4 : Band)] ≤ bandCount s 4 ∧ nothingPending s) := by
  refine ⟨?_, ?_, ?_, ?_, ?_⟩ <;> decide +kernel

/-- Work put aside while a keydown runs: a release, and a choice of antenna 31 of node 1. -/
def putAside (s : State) : State :=
  (s.setCfg { s.cfg with entries := s.cfg.entries.set 3 (some 31) }).setSel
    { s.sel with slotTx := some ⟨3, false⟩, slotRx := none, pendingRelease := some .all }

/-- What the clauses of `pendingCarriedOut` that have hypotheses ask of the work put aside. -/
abbrev workFits (s : State) : Prop :=
  slotOf s .tx = some ⟨3, false⟩ ∧ s.band.decoded ≠ 0 ∧ releasedBy s .tx = true ∧
    entryOf s s.band.decoded 3 = some (some 31) ∧ localCheck s .tx (some 31) = none ∧ homeOf 31 ≠ s.node ∧ noneDeferred s ∧
    (∀ p, (s.port p).waits = []) ∧ s.bus.queue.length < 7

theorem witness_ReleaseActsByState :
    ([onAir, keyed .stepUp true, keyed .stepUp false, keyed .keyWait false, keyed .lockout false, keyed .receive false,
      keyed .stepDown false].all
      (fun s => decide (s.inReset = false ∧ pttShows s false ∧ s.isTower = false ∧ noneDeferred s ∧ nothingPending s))
      = true) ∧
      (let s := putAside ((keyed .keyWait false).setTok ⟨.bidding, some 4, some 0, true, none, none⟩);
        s.inReset = false ∧ pttShows s false ∧ noneDeferred s ∧ s.key.state = .keyWait ∧ workFits s) ∧
      (let s := putAside ((keyed .keyWait false).setTok heldTokens);
        pttShows s false ∧ noneDeferred s ∧ s.tok.state = .keyed ∧ s.tok.band ≠ none ∧ s.tok.antenna ≠ none ∧ workFits s) ∧
      (let s := putAside ((keyed .stepUp false).setTok heldTokens);
        pttShows s false ∧ s.key.state = .stepUp ∧ s.key.amp = false ∧ s.tok.state = .keyed ∧ workFits s) ∧
      (let s := putAside ((bothAway (keyed .keyWait false)).setTok ⟨.bidding, some 4, some 31, true, none, none⟩);
        pttShows s false ∧ s.key.state = .keyWait ∧ s.tok.state = .bidding ∧ releasedBy s .rx = true ∧ workFits s ∧
        freeOwed s .tx = [(.free 15 .tx .release, 1)] ∧ freeOwed s .rx = [(.free 14 .listen .release, 1)]) ∧
      (let s := putAside ((keyed .keyWait false).setTok ⟨.bidding, some 4, some 0, true, none, none⟩);
        choiceAway s s.band.decoded 3 ∧ s.sel.slotRx = none ∧ s.sel.tx.antenna = some 0 ∧ counted s .tx ∧
        homeOf 0 = s.node ∧ holderOf s s.node (portOf 0) = some ⟨0, Uses.of .tx, true, false, 0⟩) ∧
      (∀ s ∈ [putAside onAir, putAside (keyed .stepUp true)],
        pttShows s false ∧ s.isTower = false ∧ noneDeferred s ∧ tailRuns s ∧ ¬ nothingPending s) ∧
      (let s := towered (keyed .receive false);
        s.inReset = false ∧ pttShows s false ∧ s.isTower = true ∧ settled s) ∧
      ¬ pttShows ground false := by
  refine ⟨?_, ?_, ?_, ?_, ?_, ?_, ?_, ?_, ?_⟩ <;> decide +kernel

/-- The last condition is met in this tick. -/
def waiting : State :=
  ((keyed .keyWait false { ground.key with lead := .ends 1000, leadLength := 11 }).setTok heldTokens).setDrv
    { ground.drv with localEnd := some 1000 }

theorem witness_KeyWaitEndsWhenAllMet :
    (waiting.inReset = false ∧ waiting.isTower = false ∧ waiting.key.state = .keyWait ∧ keyWaitMet waiting) ∧
      ¬ keyWaitMet (waiting.setNow 999) := by
  refine ⟨⟨rfl, rfl, rfl, fun e h => ?_, ⟨500, rfl, by decide +kernel⟩, rfl, .inr ⟨1000, rfl, by decide +kernel⟩⟩,
    fun h => ?_⟩
  · have : e = 1000 := by
      have h : some (1000#32) = some e := h
      exact (Option.some.inj h).symm
    subst this
    decide
  · exact absurd (h.1 1000 (by decide +kernel)) (by decide +kernel)

theorem witness_StepUpStepsInOrder :
    let s := ground.setKey { ground.key with state := .stepUp, ampAt := some 1000, lastAt := some 1000 }
    (s.inReset = false ∧ s.key.state = .stepUp ∧ reached 1000 s.now = true ∧ s.key.amp = false ∧
      s.key.ampAt = some 1000) ∧
      (s.setKey { s.key with amp := true }).key.lastAt = some 1000 := by decide +kernel

/-- A tail at its last step. -/
def tailed (t : Tail) (level : Bool) : State :=
  ground.setKey { ground.key with
    state := .stepDown, ampAt := none, lastAt := some 1000, tail := some t, level := level, stepProtect := true }

theorem witness_TailStepsAndEnd :
    ([tailed .unkey false, tailed (.abort .collision) true, tailed (.abort .restart) false, tailed .unkey true].all
      (fun s => decide (s.inReset = false ∧ s.key.state = .stepDown ∧ reached 1000 s.now = true ∧
        s.key.ampAt = none ∧ s.key.lastAt = some 1000 ∧ noneDeferred s ∧ nothingPending s)) = true) ∧
      (let s := ground.setKey { ground.key with state := .stepDown, amp := true, ampAt := some 1000 };
        s.key.state = .stepDown ∧ reached 1000 s.now = true ∧ s.key.ampAt = some 1000) ∧
      (let s := putAside ((tailed .unkey false).setTok ⟨.hanging, some 4, some 0, false, none, some 1200⟩);
        noneDeferred s ∧ s.tok.state = .hanging ∧ s.tok.band = some 4 ∧ workFits s) ∧
      (let s := putAside (bothAway (tailed .unkey false));
        s.tok.state = .hanging ∧ workFits s ∧ freeOwed s .tx = [(.free 15 .tx .release, 1)] ∧
        freeOwed s .rx = [(.free 14 .listen .release, 1)]) ∧
      (∀ e ∈ refusing, let s := e.1.setKey (tailed .unkey true).key;
        s.isTower = false ∧ nothingPending s ∧ noneDeferred s ∧ refusedFor s e.2) ∧
      (let s := tailed .unkey true;
        keydownChecks s 0 ∧ s.tracker.isolated = false ∧ s.bus.queue.length < 12 ∧ s.tok.state = .free ∧
        (s.setTok ⟨.hanging, some 4, some 0, false, none, some 1200⟩).tok.state = .hanging) := by
  refine ⟨?_, ?_, ?_, ?_, ?_, ?_⟩
  all_goals try unfold refusedFor
  all_goals decide +kernel

/-! ### Witnesses: the bus -/

/-- The bus busy, with a frame open and a stray character. -/
def busy (openFrame : Option (List Byte)) (stray : List Byte) : State :=
  ground.setBus { ground.bus with free := false, openFrame := openFrame, stray := stray }

theorem witness_BusFreeClosesAssembly :
    [busy none [], busy (some [1]) [], busy (some [1]) [2]].all
      (fun s => decide (s.running = true ∧ s.bus.driving = false ∧ s.bus.free = false ∧
        s.rep.live.framesRejected ≤ 65535)) = true := by decide +kernel

theorem witness_CharactersAreAssembled :
    (ground.listens = true ∧ ground.bus.complete = none ∧ ground.bus.openFrame = none ∧ ground.bus.afterComplete = false) ∧
      (wireChars shortFrame = 12 :: (wireChars shortFrame).tail) ∧
      (ground.setBus { ground.bus with afterComplete := true }).bus.afterComplete = true ∧
      (let s := busy (some [12, 1, 0, 255, 1, 4, 0]) [];
        s.listens = true ∧ s.bus.complete = none ∧ s.bus.openFrame = some [12, 1, 0, 255, 1, 4, 0] ∧
        ([12, 1, 0, 255, 1, 4, 0] ++ [0] : List Byte)[4]? = some 1 ∧
        [12, 1, 0, 255, 1, 4, 0].length + 1 = 7 + (1 : Byte).toNat) ∧
      (let s := busy (some [12, 1, 0, 255]) []; s.listens = true ∧ ([12, 1, 0, 255, 1] : List Byte)[4]? = some 1 ∧
        [12, 1, 0, 255].length + 1 ≠ 7 + (1 : Byte).toNat) := by decide +kernel

/-- The head has been attempted `n` times; it is being driven when that is not 0. -/
def headed (n : Nat) (c : Content) (owned : Bool) (s : State := ground) : State :=
  s.setBus { s.bus with
    queue := [⟨c, 255, n, if n = 0 then none else some 9, owned⟩], driving := n != 0, free := n == 0 }

/-- The idle count of the bus. -/
def idled (n : Nat) (s : State) : State := s.setBus { s.bus with idle := n }

theorem witness_AttemptTakesSequenceNumber :
    (let s := idled 1 (headed 0 (.ask 0 .tx 4 .mult) true);
      s.running = true ∧ s.bus.driving = false ∧ s.bus.queue = [⟨.ask 0 .tx 4 .mult, 255, 0, none, true⟩] ∧
      s.bus.free = true ∧ 12 + s.node.val ≤ s.bus.idle + (s.bus.idleRest + 1000) / characterTime s.cfg.rate) ∧
      (let s := headed 0 (.ask 0 .tx 4 .mult) true;
        s.bus.idle + (s.bus.idleRest + 1000) / characterTime s.cfg.rate < 12 + s.node.val) ∧
      (let s := withQueue [⟨.drop 4, 255, 1, some 9, false⟩] (idled 9 ground);
        20 + s.node.val ≤ s.bus.idle + (s.bus.idleRest + 1000) / characterTime s.cfg.rate) := by decide +kernel

/-- A keydown waits for the BID it queued. -/
def bidding : State :=
  (keyed .keyWait false { ground.key with lead := .awaitsBid, leadLength := 11 }).setTok
    ⟨.bidding, some 4, some 0, true, none, none⟩

theorem witness_ReadBackMismatchFailsAttempt :
    [headed 7 (.drop 4) false, headed 8 (.drop 4) false, headed 8 (.bid 4 .mult 0) true bidding,
      headed 8 (.txon 4 0) true ((keyed .keyWait false { ground.key with lead := .awaitsTxon }).setTok heldTokens),
      withQueue [⟨.grant 1 .listen 5, 1, 8, some 9, true⟩]
        (headed 8 (.drop 4) true (ground.setPort 1 ⟨false, [⟨1, ⟨false, true⟩, false, true, 0⟩], [], false, ⟨false, false⟩⟩))].all
      (fun s => decide (s.running = true ∧ s.bus.driving = true ∧ s.mode = .active ∧ settled s ∧ nothingPending s ∧
        (s.bus.queue.head?.bind (fun f => (wireChars (drivenFrame s f))[1]?)) = some 0 ∧ s.bus.queue.length = 1)) =
      true ∧
      (let s := (headed 8 (.drop 4) false).setMode .listenIn;
        s.running = true ∧ s.bus.driving = true ∧ s.mode = .listenIn ∧ settled s ∧
        s.bus.queue = [⟨.drop 4, 255, 8, some 9, false⟩]) := by decide +kernel

theorem witness_FrameSentRemovesAndReports :
    [headed 1 (.drop 4) false, headed 1 (.bid 4 .mult 0) true bidding, headed 1 (.txon 4 0) true (keyed .keyWait false
      { ground.key with lead := .awaitsTxon })].all
      (fun s => decide (s.running = true ∧ s.bus.driving = true ∧ s.bus.queue.length = 1)) = true := by decide +kernel

theorem witness_QueuePlacesAndMakesRoom :
    queueOrdered { ground.bus with queue := mixedQueue, driving := true } ∧ mixedQueue.any (waitingKind .roll) = true ∧
      mixedQueue.length < 12 ∧
      ∀ last ∈ [Content.roll (rollNow ground), .catalogue 0x1234 [], .ask 0 .tx 4 .mult],
        queueOrdered (withQueue (List.replicate 11 ⟨.ask 0 .tx 4 .mult, 1, 0, none, false⟩ ++ [⟨last, 255, 0, none, false⟩])).bus := by
  refine ⟨witness_OutboundQueueKeepsOrder, by decide +kernel, by decide +kernel, fun last h => ?_⟩
  have : (last = .roll (rollNow ground)) ∨ last = .catalogue 0x1234 [] ∨ last = .ask 0 .tx 4 .mult := by simpa using h
  rcases this with rfl | rfl | rfl
  all_goals exact ⟨by decide, by decide +kernel, by decide +kernel, by decide, nofun⟩

theorem witness_FramesRoundTrip :
    (Content.bid 4 .mult 0).inRange ∧ (Content.grant 0 .tx 70).inRange ∧ (Content.wait 15 8).inRange :=
  ⟨by show (4 : Band) ≠ 0; decide, by show 70 ≤ 70; decide, by show 1 ≤ 8 ∧ 8 ≤ 8; decide⟩

theorem witness_SentFramesAreAccepted :
    (Content.ask 0 .tx 4 .mult).inRange ∧ (1 : Node).val < ground.cfg.nodes ∧ ground.cfg.nodes ≤ 8 ∧
      (1 : Node) ≠ ground.node ∧ (0 : Byte).toNat < ground.cfg.nodes ∧ (0 : Byte).toNat ≠ (1 : Node).val :=
  ⟨by show (4 : Band) ≠ 0; decide, by decide +kernel⟩

/-- A frame of peer 1 with the given bytes and a matching CRC. -/
def rawOfOne (kind destination : Byte) (body : List Byte) (source : Byte := 1) : WireFrame :=
  let f : WireFrame := ⟨kind, source, 8, destination, byte body.length, body, 0⟩
  { f with crc := crc (covered f) }

/-- A frame with the length of its kind and no other fault is not to be rejected. -/
theorem accepted_of {s : State} {f : WireFrame} (length : lengthRight f.kind.toNat f.body)
    (h : (crc (covered f) == f.crc && f.kind.toNat != 0 && decide (f.kind.toNat ≤ 12) && f.body.length == f.length.toNat &&
      decide (f.source.toNat % 16 < s.cfg.nodes) && f.source.toNat % 16 != s.node.val &&
      (if f.kind.toNat ∈ [4, 5, 6, 7, 8] then decide (f.destination ≠ 255 ∧ f.destination.toNat < s.cfg.nodes ∧
        f.destination.toNat ≠ f.source.toNat % 16) else f.destination == 255)) = true) : ¬ mustReject s f := by
  simp only [Bool.and_eq_true, beq_iff_eq, bne_iff_ne, decide_eq_true_eq] at h
  obtain ⟨⟨⟨⟨⟨⟨h1, h2⟩, h3⟩, h4⟩, h5⟩, h6⟩, h7⟩ := h
  rintro (c | c | c | c | c | c | c | ⟨m, c⟩ | ⟨m, c⟩)
  · exact c h1
  · exact h2 c
  · omega
  · exact c h4
  · exact c length
  · omega
  · exact h6 c
  · rw [if_neg (by simp only [List.mem_cons, List.not_mem_nil, or_false] at m ⊢; omega)] at h7
    exact c (beq_iff_eq.mp h7)
  · rw [if_pos m, decide_eq_true_eq] at h7
    rcases c with c | c | c
    · exact h7.1 c
    · omega
    · exact h7.2.2 c

theorem witness_SentFramesAreAccepted_checks :
    (∀ f ∈ [fromOne (.drop 4), fromOne (.txon 4 31), rawOfOne 5 0 [15, 1, 71], rawOfOne 5 2 [15, 1, 71]],
      ¬ mustReject ground f) ∧
      ¬ mustReject ground (rawOfOne 2 255 [0, 0, 1, 16, 2, 0, 0]) ∧
      (mustReject ground { fromOne (.drop 4) with crc := 0 } ∧ mustReject ground (rawOfOne 13 255 [4]) ∧
        mustReject ground (rawOfOne 12 255 [4] 4) ∧ mustReject ground (rawOfOne 12 255 [4] 0) ∧
        mustReject ground (rawOfOne 12 0 [4]) ∧ mustReject ground (rawOfOne 5 1 [0, 0, 0])) ∧
      contentBad ground .grant [15, 1, 71] ∧ contentBad (towered ground) .grant [0, 0, 0] ∧ contentBad ground .drop [8] ∧
      contentBad ground .catalogue [0, 0, 1, 16, 2, 0, 0] ∧ contentBad ground .txon [4, 2] ∧
      contentBad ground .txon [4, 1] ∧ contentBad ground .bid [4, 0, 128] ∧ ¬ contentBad ground .drop [7] := by
  refine ⟨fun f h => ?_, accepted_of (.inr ⟨.inr rfl, 0, 0, 1, _, rfl, by decide, by decide⟩) (by decide +kernel),
    ⟨.inl (by decide +kernel), .inr (.inr (.inl (by decide))), .inr (.inr (.inr (.inr (.inr (.inl (by decide)))))),
      .inr (.inr (.inr (.inr (.inr (.inr (.inl (by decide))))))),
      .inr (.inr (.inr (.inr (.inr (.inr (.inr (.inl (by decide)))))))),
      .inr (.inr (.inr (.inr (.inr (.inr (.inr (.inr (by decide))))))))⟩,
    .inr (.inr (.inl (by decide))), .inr (.inr (.inr rfl)), .inr (by decide),
    ⟨0, 16, 2, 0, 0, [], rfl, .inl (.inl (by decide))⟩, .inr (.inr ⟨2, rfl, .inr ⟨.inl rfl, .inl (by decide +kernel)⟩⟩),
    .inr (.inr ⟨1, rfl, .inr ⟨.inl rfl, .inr ⟨rfl, _, rfl, rfl⟩⟩⟩), .inr (.inr (.inl (by decide))),
    by rintro (h | h) <;> revert h <;> decide⟩
  have : f = fromOne (.drop 4) ∨ f = fromOne (.txon 4 31) ∨ f = rawOfOne 5 0 [15, 1, 71] ∨ f = rawOfOne 5 2 [15, 1, 71] := by
    simpa using h
  rcases this with rfl | rfl | rfl | rfl
  all_goals exact accepted_of (.inl (by decide +kernel)) (by decide +kernel)

/-- R26: the last value of each field is good, and the next one bad. -/
theorem test_content_bounds :
    [((4 : Byte), ([15, 1, 7, 2] : List Byte), ([15, 1, 8, 2] : List Byte)), (4, [15, 0, 1, 0], [16, 0, 1, 0]),
      (4, [0, 0, 1, 2], [0, 0, 1, 3]), (5, [15, 1, 70], [15, 1, 71]), (6, [15, 8], [15, 9]), (7, [15, 5], [15, 6]),
      (8, [15, 1, 3], [15, 1, 4])].all
      (fun (kind, good, bad) =>
        (match verdict ground (rawOfOne kind 0 good) with | .good 1 _ => true | _ => false) &&
          (match verdict ground (rawOfOne kind 0 bad) with | .bad 1 _ => true | _ => false)) = true := by decide +kernel

/-! ### Witnesses: frames -/

/-- A row's frame finds nothing to close in the assembly of `ground`, and a truncated frame in a busy one. -/
theorem ground_leaves_nothing (f : WireFrame) : ¬ leftBefore ground f := by
  rintro (⟨_, h, _⟩ | ⟨_, h, _⟩) <;> exact nomatch h

theorem busy_leaves_frame : leftBefore (busy (some [1]) []) (fromOne (.drop 4)) := .inl ⟨[1], rfl, by decide +kernel⟩

theorem witness_EveryAcceptedFrameIsTracked :
    (ground.listens = true ∧ verdict ground (fromOne (.drop 4)) = .good 1 (.drop 4) ∧
      verdict ground (fromOne (.ask 0 .tx 4 .run) 2) = .elsewhere 1 .ask ∧
      verdict ground (fromOne (.txon 4 1)) = .bad 1 .txon ∧ inSequence ground (fromOne (.drop 4)) 1 ∧
      showsGap ground (frameOf 0 1 10 255 (.drop 4)) 1) ∧
      (ground.bus.complete = none ∧ ¬ leftBefore ground (fromOne (.drop 4))) ∧
      (let s := busy (some [1]) [];
        s.listens = true ∧ s.bus.complete = none ∧ verdict s (fromOne (.drop 4)) = .good 1 (.drop 4)) ∧
      leftBefore (busy (some [1]) []) (fromOne (.drop 4)) :=
  ⟨by decide +kernel, ⟨rfl, ground_leaves_nothing _⟩, by decide +kernel, busy_leaves_frame⟩

theorem witness_UncheckedFramesLeaveClaims :
    (verdict ground { fromOne (.drop 4) with crc := 0 } = .rejected ∧ ground.listens = true ∧ ground.bus.complete = none ∧
      sameEpoch ground (fromOne (.drop 4)) 1 ∧ settled ground ∧
      verdict ground (fromOne (.ask 0 .tx 4 .run) 2) = .elsewhere 1 .ask ∧
      verdict ground (fromOne (.txon 4 1)) = .bad 1 .txon) ∧
      ¬ leftBefore ground { fromOne (.drop 4) with crc := 0 } ∧
      (let s := busy none [2] |>.setBus { ground.bus with afterComplete := true, stray := [2] };
        verdict s { fromOne (.drop 4) with crc := 0 } = .rejected ∧ s.listens = true ∧
        leftBefore s { fromOne (.drop 4) with crc := 0 }) ∧
      (headed 1 (.drop 4) false).listens = false ∧ (ground.setMode .setup).listens = false :=
  ⟨by decide +kernel, ground_leaves_nothing _, ⟨by decide +kernel, rfl, .inr ⟨rfl, rfl, by decide +kernel⟩⟩, rfl, rfl⟩

/-- The TX record names antenna 31, port 15 of node 1, whose catalogue is not known. -/
def asked (state : SelState) (guardEnd : Option Tick := none) : State :=
  ground.setSel { ground.sel with tx := ⟨state, some 0, some 31, none, none, none, guardEnd, none⟩ }

/-- The points of a keydown: TRANSMIT, STEP_UP with AMP on and with AMP to come, and KEY_WAIT. -/
def keydownPoints : List (KeyState × Bool) := [(.transmit, true), (.stepUp, true), (.stepUp, false), (.keyWait, false)]

/-- A keydown at a point, on antenna 31 of node 1, with the tokens KEYED for it. -/
def keyedAway (e : KeyState × Bool) : State :=
  ((asked .granted (some 1000)).setKey (keyed e.1 e.2).key).setTok ⟨.keyed, some 4, some 31, false, none, none⟩

theorem witness_RestartedPeerIsReleased :
    (arrives ground (fromOne (.hello 0x1234 oneDescriptor)) 1 (.hello 0x1234 oneDescriptor) ∧ txLost ground = false ∧
      ground.key.state.keyed = false ∧ noneDeferred ground ∧ (∀ q, (ground.port q).waits = []) ∧
      ground.bus.queue.length < 12) ∧
      (verdict ground (frameOf 1 1 0 2 (.ask 0 .tx 4 .run)) = .elsewhere 1 .ask ∧
        verdict ground (frameOf 1 1 0 255 (.txon 4 1)) = .bad 1 .txon ∧
        verdict ground (frameOf 1 1 0 0 (.free 1 .tx .release)) = .good 1 (.free 1 .tx .release) ∧
        ¬ sameEpoch ground (frameOf 1 1 0 2 (.ask 0 .tx 4 .run)) 1 ∧ ground.rep.faults[(1 : Node)] = none) ∧
      (∀ e ∈ keydownPoints, let s := keyedAway e;
        s.key.state.keyed = true ∧ s.sel.tx.homedAt 1 = true ∧ s.sel.tx.state = .granted ∧ keptAside s .tx ∧
        releasedBy s .tx = false ∧ s.tok.state = .keyed ∧ s.tok.band = some 4 ∧ s.tok.antenna = some 31 ∧ hasRoom s ∧
        (∀ q, (s.port q).waits = []) ∧
        arrives s (fromOne (.hello 0x1234 oneDescriptor)) 1 (.hello 0x1234 oneDescriptor) ∧
        verdict s (frameOf 1 1 0 2 (.ask 0 .tx 4 .run)) = .elsewhere 1 .ask ∧
        ¬ sameEpoch s (frameOf 1 1 0 2 (.ask 0 .tx 4 .run)) 1) ∧
      arrives ground (fromOne (.catalogue 0 oneDescriptor)) 1 (.catalogue 0 oneDescriptor) ∧
      sameEpoch ground (fromOne (.catalogue 0 oneDescriptor)) 1 ∧ settled ground := by
  refine ⟨?_, ?_, ?_, ?_⟩ <;> decide +kernel

theorem witness_RollFillsRecord :
    arrives ground (fromOne (.roll (rollOfOne none))) 1 (.roll (rollOfOne none)) ∧
      inSequence ground (fromOne (.roll (rollOfOne none))) 1 ∧ (ground.peer 1).announced = false ∧
      sameEpoch ground (frameOf 0 1 10 255 (.roll (rollOfOne none))) 1 ∧
      ¬ inSequence ground (frameOf 0 1 10 255 (.roll (rollOfOne none))) 1 ∧
      (wantMask ground = 0x0E ∧ wantMask (ground.setMode .setup) = 0 ∧
        wantMask (learn ground 1 oneDescriptor) = 0x0C) ∧
      (∀ want ∈ [(0 : BitVec 8), 1], let r := { rollOfOne none with want := want };
        arrives ground (fromOne (.roll r)) 1 (.roll r) ∧ (r.want.getLsbD ground.node.val = true ↔ want = 1)) ∧
      (noneDeferred ground ∧ ground.key.state.keyed = false ∧ (∀ q, holderOf ground 1 q = none) ∧
        (∀ q, (ground.port q).waits = []) ∧ ground.bus.queue = [] ∧
        (withQueue [⟨.catalogue 0x1234 [], 255, 0, none, false⟩]).bus.queue.any
          (fun g => g.content.kind == .hello || g.content.kind == .catalogue) = true) := by decide +kernel

/-- Peer 1 holds the own port 1, whose share is 2. -/
def lent (h : Holder) : State := ground.setPort 1 ⟨false, [h], [], false, ⟨false, false⟩⟩

/-- Peer 1 holds the own port 1 beside node 2. -/
def lentBeside (h : Holder) : State :=
  ground.setPort 1 ⟨false, [⟨2, ⟨false, true⟩, true, false, 0⟩, h], [], false, ⟨false, false⟩⟩

/-- Peer 1 holds the own port 1, and others wait for it. -/
def awaited (h : Holder) (waits : List Waiter) : State :=
  (ground.setPort 1 ⟨false, [h], waits, false, ⟨false, false⟩⟩).setArb
    { (ground.setPort 1 ⟨false, [h], waits, false, ⟨false, false⟩⟩).arb with arrivals := 5 }

theorem witness_RollReconcilesGrants :
    ([(some (antennaAt 0 1), true, false, 0), (none, true, false, 0), (none, false, false, 1), (none, false, true, 0),
        (none, false, false, 0)].all fun (rx, confirmed, out, missed) => [lent, lentBeside].all fun port =>
      let s := port ⟨1, ⟨false, true⟩, confirmed, out, missed⟩
      let r := { rollOfOne none with rx := rx, active := true }
      decide (arrives s (fromOne (.roll r)) 1 (.roll r) ∧ inSequence s (fromOne (.roll r)) 1 ∧ s.mode = .active ∧
        s.host.restartHeld = false ∧ noneDeferred s ∧ s.key.state.keyed = false ∧ s.digest = some r.digest ∧
        s.sel.tx.state ≠ .reask ∧ s.sel.tx.state ≠ .failed ∧ s.sel.rx.state ≠ .reask ∧ s.sel.rx.state ≠ .failed ∧
        s.tok.state = .free ∧ s.rep.faults[(1 : Node)] = none ∧ (s.peer 1).keyed = none ∧ s.bus.queue.length < 10 ∧
        holderOf s 1 1 = some ⟨1, Uses.of .listen, confirmed, out, missed⟩ ∧
        (∀ q, q ≠ 1 → holderOf s 1 q = none) ∧ (∀ q, (s.port q).waits = []))) = true ∧
      (let s := awaited ⟨1, Uses.of .listen, true, false, 0⟩ [⟨2, Uses.of .listen, .run, 0⟩];
        arrives s (fromOne (.roll (rollOfOne (some 0)))) 1 (.roll (rollOfOne (some 0))) ∧ noneDeferred s ∧
        (s.port 1).waits = [⟨2, Uses.of .listen, .run, 0⟩] ∧ (2 : Node) ≠ s.node ∧ feedlineOf s 1 = 0 ∧
        ownDescriptor s 1 = some ⟨1, 0x38, .rx, 2, 0, 0⟩ ∧ (s.port 1).disabled = false ∧ s.bus.queue.length < 7) ∧
      (arrives ground (fromOne (.roll (rollOfOne (some 0)))) 1 (.roll (rollOfOne (some 0))) ∧
        (∀ q, holderOf ground 1 q = none)) := by
  refine ⟨?_, ?_, ?_⟩ <;> decide +kernel

/-- An ASK of peer 1 for the own port 1. -/
def askOne : Content := .ask 1 .listen 4 .run

theorem witness_AskIsAnswered :
    (arrives ground (fromOne askOne) 1 askOne ∧ sameEpoch ground (fromOne askOne) 1 ∧ settled ground ∧
      ground.bus.queue.length < 12 ∧ ownDescriptor ground 1 = some ⟨1, 0x38, .rx, 2, 0, 0⟩ ∧
      holderOf ground 1 1 = none ∧ waiterOf ground 1 1 = none ∧ grantable ground 1 (Uses.of .listen) = true) ∧
      (arrives ground (fromOne (.ask 0 .tx 4 .run)) 1 (.ask 0 .tx 4 .run) ∧ holderOf ground 1 0 = none ∧
        waiterOf ground 1 0 = none ∧ grantable ground 0 (Uses.of .tx) = false) ∧
      (arrives ground (fromOne (.ask 2 .tx 4 .run)) 1 (.ask 2 .tx 4 .run) ∧ ownDescriptor ground 2 = none) ∧
      (let s := awaited ⟨2, ⟨false, true⟩, true, false, 0⟩ [⟨1, ⟨false, true⟩, .run, 0⟩];
        arrives s (fromOne askOne) 1 askOne ∧ settled s ∧ waiterOf s 1 1 = some ⟨1, ⟨false, true⟩, .run, 0⟩) ∧
      (∀ s ∈ [lent ⟨1, ⟨false, true⟩, false, false, 1⟩, lentBeside ⟨1, ⟨false, true⟩, false, false, 1⟩],
        arrives s (fromOne askOne) 1 askOne ∧ sameEpoch s (fromOne askOne) 1 ∧ settled s ∧
        holderOf s 1 1 = some ⟨1, ⟨false, true⟩, false, false, 1⟩) := by decide +kernel

theorem witness_HomeAnswersMoveSelection :
    ([.asking, .waiting, .reask, .granted, .failed].all fun st =>
      let s := asked st (if st = .granted then some 1000 else none)
      decide (sameEpoch s (fromOne (.grant 15 .tx 70)) 1 ∧ settled s ∧ s.key.state.keyed = false ∧
        arrives s (fromOne (.grant 15 .tx 70)) 1 (.grant 15 .tx 70) ∧
        arrives s (fromOne (.wait 15 8)) 1 (.wait 15 8) ∧
        arrives s (fromOne (.refuse 15 .wrongUse)) 1 (.refuse 15 .wrongUse) ∧
        s.sel.tx.names (antennaAt 1 15) = true)) = true ∧
      (∀ e ∈ keydownPoints, let s := keyedAway e;
        arrives s (fromOne (.grant 15 .tx 70)) 1 (.grant 15 .tx 70) ∧ settled s ∧ s.sel.tx.names (antennaAt 1 15) = true ∧
        s.sel.tx.state = .granted ∧ s.sel.tx.guardEnd = some 1000 ∧ reached (after s.now 70) s.now = false ∧
        later (after s.now 70) 1000 = true ∧ keptAside s .tx ∧ s.tok.state = .keyed) := by decide +kernel

theorem witness_FreesAreTaken :
    (∀ s ∈ [lent ⟨1, ⟨false, true⟩, true, false, 0⟩, lentBeside ⟨1, ⟨false, true⟩, true, false, 0⟩],
      sameEpoch s (fromOne (.free 1 .listen .release)) 1 ∧ settled s ∧
      arrives s (fromOne (.free 1 .listen .release)) 1 (.free 1 .listen .release) ∧ (s.peer 1).counts = true ∧
      holderOf s 1 1 = some ⟨1, Uses.of .listen, true, false, 0⟩ ∧ knownKeyed s 1 1 = false ∧
      (∀ q, (s.port q).waits = [])) ∧
      (let s := awaited ⟨1, ⟨false, true⟩, true, false, 0⟩ [⟨3, Uses.of .listen, .run, 2⟩, ⟨2, Uses.of .listen, .run, 1⟩];
        settled s ∧ knownKeyed s 1 1 = false ∧ considered s 1 1 ⟨2, Uses.of .listen, .run, 1⟩ ∧
        waitsLonger s ⟨2, Uses.of .listen, .run, 1⟩ ⟨3, Uses.of .listen, .run, 2⟩ ∧ (2 : Node) ≠ s.node ∧
        (3 : Node) ≠ s.node ∧ feedlineOf s 1 = 0 ∧ holderOf s 1 1 = some ⟨1, Uses.of .listen, true, false, 0⟩ ∧
        (s.port 1).holders.length ≤ 2 ∧ ownDescriptor s 1 = some ⟨1, 0x38, .rx, 2, 0, 0⟩ ∧
        s.bus.queue.length + 2 * waitCount s (offeredPorts s 1) ≤ 12) ∧
      (let s := (lent ⟨1, ⟨true, true⟩, true, false, 0⟩).setPeer 1 { peerOne with keyed := some ⟨4, some 1⟩ };
        settled s ∧ holderOf s 1 1 = some ⟨1, ⟨true, true⟩, true, false, 0⟩ ∧ knownKeyed s 1 1 = true ∧
        arrives s (fromOne (.free 1 .listen .release)) 1 (.free 1 .listen .release)) ∧
      (∀ e ∈ keydownPoints, let s := keyedAway e;
        settled s ∧ nothingPending s ∧ arrives s (fromOne (.free 15 .tx .revoke)) 1 (.free 15 .tx .revoke) ∧
        s.sel.tx.names (antennaAt 1 15) = true ∧ s.sel.tx.state = .granted ∧ s.key.state.keyed = true) ∧
      (let s := (asked .waiting).setCfg { store with entries := store.entries.set 0 (some 31) };
        settled s ∧ arrives s (fromOne (.free 15 .tx .reconcile)) 1 (.free 15 .tx .reconcile) ∧
        s.sel.tx.choice = some 0 ∧ entryOf s s.band.decoded 0 = some (some (antennaAt 1 15)) ∧
        localCheck s .tx (some (antennaAt 1 15)) = none) := by
  refine ⟨?_, ?_, ?_, ?_, ?_⟩
  all_goals try unfold considered waitsLonger
  all_goals decide +kernel

theorem witness_BidsAndAnnouncementsTaken :
    (arrives ground (fromOne (.bid 4 .run 31)) 1 (.bid 4 .run 31) ∧
      sameEpoch ground (fromOne (.bid 4 .run 31)) 1 ∧ settled ground) ∧
      arrives ground (fromOne (.txon 4 31)) 1 (.txon 4 31) ∧ arrives ground (fromOne (.txoff 4 31)) 1 (.txoff 4 31) ∧
      (31 : Antenna) ≠ antennaAt ground.node 1 ∧
      (∀ r ∈ [(⟨true, [⟨1, ⟨false, true⟩, true, false, 0⟩], [], true, ⟨false, false⟩⟩ : PortRecord),
          ⟨false, [⟨1, ⟨true, true⟩, true, false, 0⟩], [], true, ⟨false, false⟩⟩,
          ⟨false, [⟨1, ⟨false, true⟩, true, false, 0⟩], [], false, Uses.of .listen⟩,
          ⟨false, [⟨1, ⟨true, true⟩, true, false, 0⟩], [], false, Uses.of .listen⟩],
        let s := (ground.setPort 1 r).setPeer 1 { peerOne with keyed := some ⟨4, some 1⟩ };
        (∀ c ∈ [Content.txon 4 31, .txoff 4 31, .drop 4], arrives s (fromOne c) 1 c ∧ sameEpoch s (fromOne c) 1) ∧
        (s.port 1).holders = r.holders ∧ r.holders.map Holder.node = [1] ∧
        (r.revokePending = true ∨ r.releasePending = Uses.of .listen) ∧ (∀ q, q ≠ 1 → deferred s q = false) ∧
        s.tok.state = .free ∧ txLost s = false ∧ (∀ q, (s.port q).waits = []) ∧ s.bus.queue.length < 11) := by
  decide +kernel

theorem witness_YieldFreesTokens :
    (∀ c ∈ [Content.txon 4 31, .txoff 4 31,
        .roll { rollOfOne none with bandToken := .keyed, signalToken := .keyed }],
      arrives onAir (fromOne c) 1 c ∧ inSequence onAir (fromOne c) 1) ∧
      (onAir.tok.state = .keyed ∧ onAir.tok.band = some 4 ∧ txLost onAir = false ∧ onAir.cfg.bandLimit[(4 : Band)] ≤ 0 + 1 ∧
        classOf onAir 1 = .run ∧ betterRank .run 1 onAir.cfg.cls onAir.node = true ∧ onAir.key.state = .transmit ∧
        onAir.digest = some 0x1234 ∧ (∀ q, holderOf onAir 1 q = none) ∧ (∀ q, (onAir.port q).waits = []) ∧
        onAir.sel.tx.state = .granted ∧ onAir.sel.rx.state = .empty ∧ onAir.rep.faults[(1 : Node)] = none) ∧
      (∀ e ∈ keydownPoints, let s := (keyed e.1 e.2).setTok heldTokens;
        arrives s (fromOne (.txon 4 31)) 1 (.txon 4 31) ∧ inSequence s (fromOne (.txon 4 31)) 1 ∧ txLost s = false ∧
        s.cfg.bandLimit[(4 : Band)] ≤ 0 + 1 ∧ s.key.state.keyed = true ∧ noneDeferred s ∧ s.bus.queue.length < 8) ∧
      (let s := hanging ground;
        arrives s (fromOne (.txon 4 31)) 1 (.txon 4 31) ∧ inSequence s (fromOne (.txon 4 31)) 1 ∧ txLost s = false ∧
        s.tok.state = .hanging ∧ noneDeferred s) ∧
      (let s := (onAir.setCfg { store with bandLimit := store.bandLimit.set 4 2 }).setPeer 2
          { peerOne with bandToken := .hanging, signalToken := .hanging, tokenBand := 4 };
        arrives s (fromOne (.txon 4 31)) 1 (.txon 4 31) ∧ inSequence s (fromOne (.txon 4 31)) 1 ∧
        ((peersOf s).filter (fun q => q != 1 && holdsBand s q 4 && betterHolder s q)).length = 1 ∧
        s.cfg.bandLimit[(4 : Band)] = 2 ∧ s.cfg.signalLimit ≤ 1 + 1) ∧
      (let s := onAir.setCfg { store with bandLimit := store.bandLimit.set 4 2 };
        arrives s (fromOne (.txon 4 31)) 1 (.txon 4 31) ∧ noneDeferred s ∧ 0 + 1 < s.cfg.bandLimit[(4 : Band)] ∧
        0 + 1 < s.cfg.signalLimit ∧ (peersOf s).filter (fun q => q != 1 && holdsSignal s q && betterHolder s q) = []) := by
  refine ⟨?_, ?_, ?_, ?_, ?_, ?_⟩ <;> decide +kernel

/-! ### Witnesses: timed events -/

theorem witness_BeatsKeepTheirTicks :
    let s := (ground.setNow 1100).setGov { ground.gov with nextHour := some 1100 }
    s.inReset = false ∧ s.mode ≠ .setup ∧ s.bus.nextRoll = some 1001 ∧ reached 1001 s.now = true ∧
      s.bus.queue.length < 12 ∧ reached s.drv.refreshAt s.now = true ∧ s.gov.nextHour = some 1100 ∧
      reached 1100 s.now = true := by decide +kernel

/-- Peer 1 is SILENT, and its orphan hold ends at 1000. -/
def silentOne (s : State) : State := s.setPeer 1 { peerOne with state := .silent, orphanEnd := some 1000 }

/-- A keydown on antenna 31 of peer 1, which is SILENT, with the tokens KEYED. -/
def onAwayFrom (s : State) : State :=
  (((silentOne (asked .granted (some 500))).setKey s.key).setTok ⟨.keyed, some 4, some 31, false, none, none⟩)

theorem witness_LivenessTimeouts :
    (let s := ground.setNow 1650;
      s.running = true ∧ (s.peer 1).state = .current ∧ settled s ∧
      reached (after (s.peer 1).lastFrame (3 * s.interval)) s.now = true ∧ s.mode = .active ∧
      s.tracker.isolated = false ∧ reached (after s.tracker.lastPeerFrame (3 * s.interval)) s.now = true) ∧
      (let s := ground.setPeer 1 { peerOne with state := .silent, orphanEnd := some 1000 };
        s.running = true ∧ (s.peer 1).orphanEnd = some 1000 ∧ reached 1000 s.now = true ∧
        s.key.state.keyed = false) ∧
      (∀ s ∈ [onAwayFrom onAir, onAwayFrom (keyed .stepUp true), onAwayFrom (keyed .keyWait false)],
        s.running = true ∧ (s.peer 1).state = .silent ∧ (s.peer 1).orphanEnd = some 1000 ∧ reached 1000 s.now = true ∧
        s.key.state.keyed = true ∧ s.sel.tx.homedAt 1 = true ∧ s.sel.tx.state = .granted ∧ s.tok.state = .keyed ∧
        s.tok.band = some 4 ∧ s.tok.antenna = some 31 ∧ releasedBy s .tx = false ∧ keptAside s .tx ∧ hasRoom s ∧
        (∀ q, (s.port q).waits = [])) ∧
      (let s := silentOne onAir;
        s.running = true ∧ s.key.state.keyed = true ∧ settled s ∧ s.sel.tx.homedAt 1 = false ∧
        (∀ q, ∀ w ∈ (s.port q).waits, w.node = s.node → w.uses.tx = false)) ∧
      (let s := (ground.setMode .listenIn).setTracker { ground.tracker with listenInEnd := some 1000 };
        s.running = true ∧ s.tracker.listenInEnd = some 1000 ∧ reached 1000 s.now = true ∧
        s.cfg.role = .position ∧ s.band.decoded ≠ 0 ∧
        ((0, 16) : Nat × Nat) = (s.sel.memory[s.band.decoded]).head?.getD
          (s.cfg.defaultTx[s.band.decoded], s.cfg.defaultRx[s.band.decoded])) := by decide +kernel

theorem witness_DeadlinesAndExpiries :
    ([asked .reask, (asked .failed).setSel { ground.sel with tx := ⟨.failed, some 0, some 31, some .noReply, none, none, none, none⟩ },
        (asked .failed).setSel
          { ground.sel with tx := ⟨.failed, some 0, some 31, some (.refusedByHome .starting), none, none, none, none⟩ }].all
      fun s => [none, some 31].all fun entry =>
      let s := s.setCfg { store with entries := store.entries.set 0 entry }
      let r := { rollOfOne none with active := true }
      decide (arrives s (fromOne (.roll r)) 1 (.roll r) ∧ sameEpoch s (fromOne (.roll r)) 1 ∧ noneDeferred s ∧
        s.key.state.keyed = false ∧ (∀ q, holderOf s 1 q = none) ∧ s.bus.queue.length < 7 ∧
        (∀ q, (s.port q).waits = []) ∧ (∃ a, s.sel.tx.antenna = some a ∧ homeOf a = 1) ∧
        (s.sel.tx.state = .reask ∨ s.sel.tx.reason = some .noReply ∨ s.sel.tx.reason = some (.refusedByHome .starting)) ∧
        entryOf s 4 0 = some entry ∧ localCheck s .tx entry = (if entry = none then some .emptyChoice else none) ∧
        homeOf 31 ≠ s.node)) = true ∧
      (let s := (ground.setSel { ground.sel with tx := ⟨.asking, some 0, some 31, none, none, some 1000, none, some 6⟩ }).setBids
          (resetBids.set 1 (some ⟨4, .run, 31, 967, 1000⟩));
        s.running = true ∧ reached 1000 s.now = true ∧ s.sel.tx.state = .asking ∧ s.sel.tx.deadline = some 1000 ∧
        s.sel.tx.antenna = some 31 ∧ settled s ∧ s.bids[(1 : Node)] = some ⟨4, .run, 31, 967, 1000⟩) := by
  refine ⟨?_, ?_⟩ <;> decide +kernel

theorem witness_WindowAndHangEnd :
    ([keyed .keyWait false, keyed .receive false].all fun s =>
      let s := s.setTok ⟨.bidding, some 4, some 0, false, some 1000, none⟩
      decide (s.running = true ∧ reached 1000 s.now = true ∧ s.tok.band = some 4 ∧ settled s ∧ nothingPending s ∧
        bandCount s 4 < s.cfg.bandLimit[(4 : Band)] ∧ signalCount s < s.cfg.signalLimit)) = true ∧
      (let s := ((keyed .keyWait false).setTok ⟨.bidding, some 4, some 0, false, some 1000, none⟩).setBids
        (resetBids.set 1 (some ⟨4, .run, 31, 967, 1000⟩));
        settled s ∧ s.cfg.bandLimit[(4 : Band)] ≤ bandCount s 4) ∧
      (let s := ground.setTok ⟨.hanging, some 4, some 0, false, none, some 1000⟩;
        settled s ∧ s.tok.hangEnd = some 1000 ∧ s.tok.band = some 4) := by decide +kernel

/-- Each event that a tick brings, at the tick it falls due. -/
theorem witness_EmptyQueueTakesDueEventOrTick_due :
    (Due (bandMoved ground) .bandSettle ∧ Due (pressed ground) .pttPress ∧ Due (keyed .receive false) .pttRelease ∧
      Due (ground.setHost { ground.host with record := [0x0A], lastByte := 995 }) (.hostRecordGap [0x0A]) ∧
      Due (ground.setGov { ground.gov with nextHour := some 1000 }) .hourBoundary) ∧
      (Due (ground.setNow 1650) (.peerTimeout 1) ∧ Due (silentOne ground) (.orphanHoldExpiry 1) ∧
        Due ((ground.setMode .listenIn).setTracker { ground.tracker with listenInEnd := some 1000 }) .listenInEnd ∧
        Due (ground.setNow 1650) .isolationTimeout ∧
        Due (ground.setBids (resetBids.set 1 (some ⟨4, .run, 31, 967, 1000⟩))) (.bidRecordExpiry 1)) ∧
      (Due (ground.setSel { ground.sel with tx := ⟨.asking, some 0, some 31, none, none, some 1000, none, some 6⟩ })
          (.replyDeadline .tx) ∧
        Due (ground.setTok ⟨.bidding, some 4, some 0, false, some 1000, none⟩) .windowEnd ∧
        Due ((hanging ground).setNow 1200) .hangEnd ∧ Due waiting .keyWaitEnd) ∧
      (Due (keyed .stepUp false { ground.key with ampAt := some 1000 }) .ampStep ∧
        Due (keyed .stepUp true { ground.key with lastAt := some 1000 }) .inhibitStep ∧
        Due (keyed .stepDown true { ground.key with ampAt := some 1000 }) .tailAmpStep ∧
        Due (tailed .unkey false) .tailEnd) ∧
      Due (ground.setHost { ground.host with restartHeld := true }) .restartTakesEffect ∧
      Due (ground.setNow 1001) .rollDue ∧ Due (ground.setNow 1100) .chainRefresh ∧
      Due (idled 1 (headed 0 (.ask 0 .tx 4 .mult) true)) .frameAttemptStart :=
  ⟨⟨.bandSettle (by decide) (by decide), .pttPress (by decide), .pttRelease (by decide), .recordGap (by decide) (by decide),
      .hour 1000 rfl (by decide)⟩,
    ⟨.silence 1 (by decide) (by decide) (by decide) (by decide), .orphan 1 1000 (by decide) (by decide) rfl rfl (by decide),
      .listenIn 1000 rfl rfl (by decide), .isolation rfl rfl (by decide), .bid 1 _ (by decide) rfl (by decide)⟩,
    ⟨.deadline .tx 1000 (by decide) rfl rfl (by decide), .window 1000 (by decide) rfl rfl (by decide),
      .hang 1200 (by decide) rfl rfl (by decide), .keyWait rfl witness_KeyWaitEndsWhenAllMet.1.2.2.2⟩,
    ⟨.ampStep 1000 rfl rfl rfl (by decide), .inhibitStep 1000 rfl rfl rfl (by decide),
      .tailAmpStep 1000 rfl rfl (by decide), .tailEnd 1000 rfl rfl rfl (by decide)⟩,
    .restart rfl rfl (by decide +kernel), .roll 1001 (by decide) rfl (by decide), .refresh (by decide),
    .attempt _ [] (by decide) rfl rfl rfl (by decide +kernel)⟩

/-! ### Witnesses: the host port -/

theorem witness_PutStoresItem :
    (hostTakes State.reset = true ∧ State.reset.mode = .setup ∧ hostTakes ground = true ∧ ground.mode ≠ .setup ∧
      putItem ground.cfg 1 0 [8] ≠ .wrongLength ∧ putItem ground.cfg 1 0 [8, 0] = .wrongLength ∧
      ((21, 1, 0, 63) : Nat × Nat × Nat × Nat) ∈ itemShapes) ∧
      (pairsFit 1 [(31, 1)] ∧ pairsFit 0 [] ∧ ¬ pairsFit 1 [] ∧ ¬ pairsFit 0 [(32, 1)] ∧ ¬ pairsFit 0 [(0, 2)] ∧
        ¬ pairsFit 0 [(0, 1), (0, 0)]) ∧
      antennaBytes 0x38 0 1 2 0 [(0, 1)] = [0x38, 0, 1, 2, 0, 1, 0, 1] := by
  exact ⟨by decide +kernel, by simp [pairsFit], rfl⟩

/-- R183: each bound of a range is stored, and the value beyond it is BAD_VALUE. -/
theorem test_put_bounds :
    [((1 : Byte), (0 : Byte), ([2] : List Byte), ([1] : List Byte)), (1, 0, [8], [9]), (4, 7, [3], [4]), (5, 0, [1], [0]),
      (5, 0, [8], [9]), (8, 0, [0x75, 0x30], [0x75, 0x31]), (9, 0, [50, 50], [50, 51]), (10, 0, [20], [21]),
      (12, 0, [5], [4]), (12, 0, [120], [121]), (13, 0, [60, 30, 2], [60, 31, 2]), (14, 3, [1, 40, 10], [1, 41, 10]),
      (15, 31, [3], [4]), (16, 31, [1], [2]), (17, 15, [0xFE, 0, 1, 15, 7, 1, 31, 1], [0xFE, 0, 2, 15, 7, 1, 31, 1]),
      (17, 0, [2, 1, 4, 0, 0, 1, 0, 0], [3, 1, 4, 0, 0, 1, 0, 0]), (18, 7, [0], [1, 32, 0]), (19, 1, [7, 7], [7, 8]),
      (20, 1, [7, 16], [7, 17]), (20, 7, [0, 8], [0, 7]), (21, 63, [127], [128]), (21, 0, [255], [254])].all
      (fun (item, index, good, bad) => [(good, Status.ok), (bad, .badValue)].all fun (value, status) =>
        match exec (.put item index value) State.reset with
        | .next t => t.host.replies == [⟨0x81, status, []⟩]
        | _ => false) = true := by decide +kernel

/-- A node in SETUP with the store of the tests. -/
def loaded (cfg : Store) : State := State.reset.setCfg cfg

theorem witness_StartOpensSession :
    hostTakes (loaded store) = true ∧ (loaded store).mode = .setup ∧ configFault (loaded store) = none ∧
      (loaded store).bus.queue = [] ∧
      configFault (loaded { store with role := .tower, govMode := .warn }) = some (13, 0) ∧
      configFault (loaded { store with role := .tower, policy := .localKeying }) = some (11, 0) ∧
      configFault ((loaded store).setCfg { store with bandPatterns := store.bandPatterns.set 4 [(1, false)] }) =
        some (17, 1) := by decide +kernel

/-- Ports 0 and 1 set output 0 to different levels. -/
def clashing : Store :=
  { store with antennas := store.antennas.set 1 (some ⟨⟨1, 0x38, .rx, 2, 0, 0⟩, [(0, false)]⟩) }

/-- Band 4 sets output 0 low, which port 0 sets high. -/
def bandClashing : Store := { store with bandPatterns := store.bandPatterns.set 4 [(0, false)] }

theorem clashing_antennasClash : antennasClash clashing 0 1 :=
  ⟨_, _, rfl, rfl, ⟨0, true, by decide +kernel, by decide +kernel⟩, .inl rfl⟩

theorem bandClashing_bandClashes : bandClashes bandClashing 0 :=
  ⟨4, _, by decide, rfl, ⟨0, false, by decide +kernel, by decide +kernel⟩⟩

/-- No two antenna patterns of a store clash, by looking at every two. -/
theorem antennas_agree {cfg : Store}
    (h : ∀ p q : Port, p ≠ q → ∀ c ∈ cfg.antennas[p], ∀ d ∈ cfg.antennas[q], ∀ e ∈ c.pattern, (e.1, !e.2) ∉ d.pattern) :
    ∀ p q : Port, p ≠ q → ¬ antennasClash cfg p q :=
  fun p q hne ⟨c, d, hc, hd, ⟨_, _, he, hf⟩, _⟩ => h p q hne c hc d hd _ he hf

/-- No band pattern clashes with the antenna pattern of a port, by looking at every two. -/
theorem bands_agree {cfg : Store}
    (h : ∀ (p : Port) (b : Band), ∀ c ∈ cfg.antennas[p], ∀ e ∈ cfg.bandPatterns[b], (e.1, !e.2) ∉ c.pattern) :
    ∀ p : Port, ¬ bandClashes cfg p :=
  fun p ⟨b, c, _, hc, ⟨_, _, he, hf⟩⟩ => h p b c hc _ he hf

theorem witness_StartOpensSession_checks :
    (firstChecksPass (loaded clashing) ∧ antennasClash (loaded clashing).cfg 0 1 ∧
      ∀ p q : Port, p.val < q.val → antennasClash (loaded clashing).cfg p q → (1 : Port).val ≤ q.val) ∧
      (firstChecksPass (loaded bandClashing) ∧ (∀ p q : Port, p ≠ q → ¬ antennasClash (loaded bandClashing).cfg p q) ∧
        bandClashes (loaded bandClashing).cfg 0 ∧ ∀ q : Port, ¬ q.val < (0 : Port).val) ∧
      (firstChecksPass (loaded store) ∧ (∀ p q : Port, p ≠ q → ¬ antennasClash (loaded store).cfg p q) ∧
        ∀ p : Port, ¬ bandClashes (loaded store).cfg p) := by
  refine ⟨⟨⟨by decide +kernel, by decide +kernel, ?_, by decide +kernel⟩, clashing_antennasClash, fun p q h _ => by omega⟩,
    ⟨⟨by decide +kernel, by decide +kernel, ?_, by decide +kernel⟩, antennas_agree (by decide +kernel),
      bandClashing_bandClashes, fun q => Nat.not_lt_zero _⟩,
    ⟨by decide +kernel, by decide +kernel, ?_, by decide +kernel⟩, antennas_agree (by decide +kernel),
    bands_agree (by decide +kernel)⟩
  · exact (by decide +kernel : ∀ p : Port, ∀ c ∈ (loaded clashing).cfg.antennas[p], ∀ e ∈ c.pattern, e.1 ≤ 31)
  · exact (by decide +kernel : ∀ p : Port, ∀ c ∈ (loaded bandClashing).cfg.antennas[p], ∀ e ∈ c.pattern, e.1 ≤ 31)
  · exact (by decide +kernel : ∀ p : Port, ∀ c ∈ (loaded store).cfg.antennas[p], ∀ e ∈ c.pattern, e.1 ≤ 31)

theorem witness_RestartHeldThenTakesEffect :
    (hostTakes onAir = true ∧ onAir.mode ≠ .setup ∧ onAir.host.restartHeld = false ∧ settled onAir ∧
      onAir.key.state = .transmit ∧ onAir.tok.band = some 4) ∧
      (∀ e ∈ keydownPoints,
        ∀ tok ∈ [heldTokens, ⟨.bidding, some 4, some 0, true, none, none⟩, (hanging ground).tok, Tokens.reset],
        let s := (keyed e.1 e.2).setTok tok;
        hostTakes s = true ∧ s.mode ≠ .setup ∧ s.host.restartHeld = false ∧ settled s ∧ s.key.state.keyed = true ∧
        nothingPending s ∧ releasedBy s .tx = false ∧ hasRoom s) ∧
      (let s := ground.setHost { ground.host with restartHeld := true };
        s.inReset = false ∧ s.key.state.busy = false ∧ (∀ p, keyedHolder s p = false)) ∧
      keyedHolder onAir 0 = true := by decide +kernel

/-- Choice 8 of 20 m is the node's own port 1. -/
def ownEntry (r : PortRecord) : State :=
  (ground.setCfg { store with entries := store.entries.set 0 (some 1) }).setPort 1 r |>.setSel
    { ground.sel with rx := Selection.reset }

/-- The own port 1 held by the node itself, waited for by it, and taken by two peers with a third waiting. -/
def heldByOwn : PortRecord := ⟨false, [⟨0, ⟨true, false⟩, true, false, 0⟩], [], false, ⟨false, false⟩⟩
def waitedByOwn : PortRecord := ⟨false, [], [⟨0, ⟨true, false⟩, .run, 0⟩], false, ⟨false, false⟩⟩
def sharedOut : PortRecord :=
  ⟨false, [⟨1, ⟨false, true⟩, true, false, 0⟩, ⟨2, ⟨false, true⟩, true, false, 0⟩], [⟨3, ⟨false, true⟩, .run, 0⟩], false,
    ⟨false, false⟩⟩

/-- The stack of 20 m has a pair to recall, and choice 8 is antenna 30 of node 1. -/
def recalling : State :=
  (ground.setCfg { store with entries := store.entries.set 0 (some 30) }).setSel
    { ground.sel with memory := ground.sel.memory.set 4 [(7, 8), (0, 16)] }

theorem witness_SelectionRequestsCarriedOut :
    ((∀ r ∈ [⟨true, [], [], false, ⟨false, false⟩⟩, heldByOwn, waitedByOwn, ⟨false, [], [], false, ⟨false, false⟩⟩, sharedOut],
      let s := ownEntry r
      hostTakes s = true ∧ s.mode = .active ∧ s.cfg.role = .position ∧ s.band.decoded ≠ 0 ∧
        s.key.state.busy = false ∧ alreadyHolds s.sel.rx 8 = false ∧ entryOf s s.band.decoded 8 = some (some 1) ∧
        localCheck s .rx (some 1) = none ∧ (1 : Antenna) = antennaAt s.node 1 ∧ noneDeferred s ∧
        s.sel.rx.antenna = none ∧ freeOwed s .rx = []) ∧
      holderOf (ownEntry heldByOwn) 0 1 ≠ none ∧ waiterOf (ownEntry waitedByOwn) 0 1 ≠ none ∧
      grantable (ownEntry ⟨false, [], [], false, ⟨false, false⟩⟩) 1 (Uses.of .listen) = true ∧
      grantable (ownEntry sharedOut) 1 (Uses.of .listen) = false) ∧
    (hostTakes ground = true ∧ ground.host.restartHeld = false ∧ ground.mode = .active ∧
      ground.cfg.role = .position ∧ ground.band.decoded ≠ 0 ∧ ground.key.state.busy = false ∧
      alreadyHolds ground.sel.tx 0 = true ∧ alreadyHolds ground.sel.tx 7 = false ∧
      localCheck ground .tx none = some .emptyChoice ∧ entryOf ground 4 7 = some none) ∧
      (let s := (asked .failed).setCfg { store with entries := store.entries.set 3 (some 31) };
        alreadyHolds s.sel.tx 3 = false ∧ entryOf s 4 3 = some (some 31) ∧ localCheck s .tx (some 31) = none ∧
        homeOf 31 ≠ s.node ∧ noneDeferred s ∧ freeOwed s .tx = [] ∧ s.bus.queue.length < 12) ∧
      (∀ st ∈ [SelState.asking, .waiting, .granted],
        let s := (asked st).setCfg { store with entries := store.entries.set 3 (some 30) };
        freeOwed s .tx = [(.free 15 .tx .release, 1)] ∧ alreadyHolds s.sel.tx 3 = false ∧ hasRoom s ∧
        entryOf s 4 3 = some (some 30) ∧ localCheck s .tx (some 30) = none ∧ homeOf 30 ≠ s.node ∧
        s.bus.queue.length + (freeOwed s .tx).length < 12 ∧ s.bus.queue.length < 9) ∧
      (recalling.sel.memory[recalling.band.decoded] = (7, 8) :: [(0, 16)] ∧ alreadyHolds recalling.sel.tx 7 = false ∧
        choiceAway recalling 4 7 ∧ choiceAway recalling 4 8 ∧ recalling.tok.state ≠ .keyed ∧ counted recalling .tx ∧
        recalling.sel.tx.antenna = some 0 ∧
        homeOf 0 = recalling.node ∧ holderOf recalling recalling.node (portOf 0) = some ⟨0, Uses.of .tx, true, false, 0⟩) ∧
      (let s := recalling.setSel { recalling.sel with memory := recalling.sel.memory.set 4 [(0, 8)] };
        s.sel.memory[s.band.decoded] = [(0, 8)] ∧ alreadyHolds s.sel.tx 0 = true ∧ choiceAway s 4 0 ∧ choiceAway s 4 8) ∧
      (let s := hanging (bothAway ground);
        s.tok.state = .hanging ∧ s.tok.band = some 4 ∧ freeOwed s .tx ≠ [] ∧ freeOwed s .rx ≠ [] ∧ s.key.state.busy = false ∧
        s.sel.pendingRelease = none ∧ s.bus.queue.length < 10) ∧
      (onAir.key.state.busy = true ∧ onAir.sel.pendingRelease = none ∧ scopeOf 2 = some .all) := by
  refine ⟨?_, ?_, ?_, ?_, ?_, ?_, ?_, ?_⟩ <;> decide +kernel

/-- Ports 0 and 1 are one feedline group; peer 1 holds port 0, and nodes 2 and 3 wait for port 1. -/
def oneFeedline : State :=
  ((((ground.setCfg { store with
      antennas := (store.antennas.set 0 (some ⟨⟨0, 0x38, .tx, 1, 0, 3⟩, [(0, true)]⟩)).set 1
        (some ⟨⟨1, 0x38, .rx, 2, 0, 3⟩, [(1, true)]⟩) }).setSel SelectionUnit.reset).setPort 0
    ⟨false, [⟨1, ⟨true, false⟩, true, false, 0⟩], [], false, ⟨false, false⟩⟩).setPort 1
    ⟨false, [], [⟨2, ⟨false, true⟩, .run, 1⟩, ⟨3, ⟨false, true⟩, .run, 2⟩], false, ⟨false, false⟩⟩)

theorem witness_PeerAndPortRequests :
    (hostTakes ground = true ∧ ground.host.restartHeld = false ∧ ground.mode ≠ .setup ∧ ground.cfg.nodes ≤ 7 ∧
      (ground.peer 1).state = .current ∧ (ground.peer 2).state = .absent ∧ ground.cfg.antennas[(1 : Port)] ≠ none ∧
      ground.cfg.antennas[(15 : Port)] = none) ∧
      (let s := ground.setPeer 1 { peerOne with state := .silent, orphanEnd := some 2000 };
        (s.peer 1).state = .silent ∧ s.key.state.keyed = false) ∧
      (let s := ground.setPort 1 ⟨false, [], [⟨1, ⟨false, true⟩, .run, 0⟩], false, ⟨false, false⟩⟩;
        noneDeferred s ∧ s.key.state.keyed = false ∧ (s.port 1).holders = [] ∧ (∀ w ∈ (s.port 1).waits, w.node ≠ s.node)) ∧
      (let s := (ground.setPort 1 ⟨false, [], [⟨0, ⟨false, true⟩, .run, 0⟩], false, ⟨false, false⟩⟩).setSel
          { ground.sel with rx := ⟨.waiting, some 8, some 1, none, some 1, none, none, none⟩ };
        noneDeferred s ∧ s.sel.rx.antenna = some (antennaAt s.node 1) ∧ (0 : Node) = s.node) ∧
      (∀ holders ∈ [[⟨1, ⟨false, true⟩, true, false, 0⟩],
          [⟨1, ⟨false, true⟩, true, false, 0⟩, (⟨2, ⟨false, true⟩, true, false, 0⟩ : Holder)]],
        let s := ground.setPort 1 ⟨false, holders, [⟨3, ⟨false, true⟩, .run, 0⟩], false, ⟨false, false⟩⟩;
        (s.port 1).disabled = false ∧ noneDeferred s ∧ s.key.state.keyed = false ∧ (s.port 1).holders ≠ [] ∧
        (∀ h ∈ (s.port 1).holders, h.node ≠ s.node ∧ knownKeyed s h.node 1 = false) ∧
        (∀ w ∈ (s.port 1).waits, w.node ≠ s.node) ∧ (∀ q, q ≠ 1 → (s.port q).waits = []) ∧
        s.bus.queue.length + (s.port 1).waits.length + 2 * (s.port 1).holders.length ≤ 12 ∧
        (let s := s.setPeer 1 { peerOne with keyed := some ⟨4, some 1⟩ };
          noneDeferred s ∧ knownKeyed s 1 1 = true)) ∧
      (∀ s ∈ [onAwayFrom onAir, silentOne onAir], hostTakes s = true ∧ s.host.restartHeld = false ∧ s.mode ≠ .setup ∧
        (s.peer 1).state = .silent ∧ s.key.state.keyed = true) ∧
      (hostTakes onAir = true ∧ settled onAir ∧ (onAir.port 0).disabled = false ∧
        (onAir.port 0).holders = [⟨0, Uses.of .tx, true, false, 0⟩] ∧ knownKeyed onAir 0 0 = true ∧
        (∀ q, (onAir.port q).waits = [])) ∧
      ((ground.port 0).holders = [⟨0, Uses.of .tx, true, false, 0⟩] ∧ noneDeferred ground ∧
        ground.key.state.keyed = false ∧ knownKeyed ground ground.node 0 = false ∧ ground.sel.tx.state = .granted ∧
        ground.sel.tx.antenna = some (antennaAt ground.node 0) ∧ (∀ q, (ground.port q).waits = [])) ∧
      (hostTakes bidding = true ∧ noneDeferred bidding ∧ bidding.key.state.keyed = true ∧
        bidding.sel.tx.state = .granted ∧ bidding.sel.tx.antenna = some (antennaAt bidding.node 0) ∧
        (⟨0, ⟨true, false⟩, true, false, 0⟩ : Holder) ∈ (bidding.port 0).holders ∧ bidding.tok.state = .bidding ∧
        keptAside bidding .tx) ∧
      (hostTakes oneFeedline = true ∧ settled oneFeedline ∧ (oneFeedline.port 0).disabled = false ∧
        (oneFeedline.port 0).holders = [⟨1, Uses.of .tx, true, false, 0⟩] ∧ knownKeyed oneFeedline 1 0 = false ∧
        (1 : Node) ≠ oneFeedline.node ∧ considered oneFeedline 0 1 ⟨2, Uses.of .listen, .run, 1⟩ ∧
        considered oneFeedline 0 1 ⟨3, Uses.of .listen, .run, 2⟩ ∧
        (∀ q, q ≠ 1 → q ≠ 0 → (oneFeedline.port q).waits = []) ∧
        waitsLonger oneFeedline ⟨2, Uses.of .listen, .run, 1⟩ ⟨3, Uses.of .listen, .run, 2⟩ ∧
        (oneFeedline.port 1).holders = [] ∧ (∀ q, q ≠ 0 → q ≠ 1 → feedlineOf oneFeedline q ≠ feedlineOf oneFeedline 0) ∧
        ownDescriptor oneFeedline 1 = some ⟨1, 0x38, .rx, 2, 0, 3⟩ ∧ (oneFeedline.port 1).disabled = false ∧
        oneFeedline.bus.queue.length + 2 * (oneFeedline.port 0).holders.length +
          2 * waitCount oneFeedline (offeredPorts oneFeedline 0) ≤ 12) := by
  refine ⟨?_, ?_, ?_, ?_, ?_, ?_, ?_, ?_, ?_, ?_⟩
  all_goals try unfold considered waitsLonger
  all_goals decide +kernel

/-- R80, R78, R91: the REFUSE of the port's waiter, the FREE of its holder, and the GRANTs on the other port of the group. -/
theorem test_disable_reoffers :
    let s := oneFeedline.setPort 0 { oneFeedline.port 0 with waits := [⟨3, ⟨true, false⟩, .run, 0⟩] }
    (ran (.disable 0) s).bus.queue.map (fun f => (f.content.kind, f.destination)) =
      [(.refuse, 3), (.free, 1), (.grant, 2), (.grant, 3)] := by decide +kernel

/-- R78, with the choice of log entry 49: the FREE to the RX record's home stands before the GRANT of the own port that the TX
record left. -/
theorem test_release_frees_before_grants :
    let s := (ground.setPort 0 { ground.port 0 with waits := [⟨2, ⟨true, false⟩, .run, 0⟩] }).setSel
      { ground.sel with rx := ⟨.granted, some 8, some 31, none, none, none, some 500, none⟩ }
    (ran (.release 2) s).bus.queue.map (fun f => (f.content.kind, f.destination)) = [(.free, 1), (.grant, 2)] := by
  decide +kernel

theorem witness_StateIsReadByRequests :
    hostTakes ground = true ∧ ground.mode ≠ .setup ∧ (ground.peer 1).state ≠ .absent ∧ (ground.peer 2).state = .absent ∧
      ground.learned[(1 : Node)].known = false ∧ (ownDescriptors ground)[1]? = some ⟨1, 0x38, .rx, 2, 0, 0⟩ ∧
      (ownDescriptors ground).length ≤ 2 ∧ (learn ground 1 oneDescriptor).learned[(1 : Node)] = ⟨true, oneDescriptor⟩ ∧
      (ground.peer 1).roll = peerOne.roll ∧ (ground.peer 1).keyed = none ∧ ground.bids[(1 : Node)] = none ∧
      (ground.peer 2).roll = none ∧
      (let s := (ground.setPeer 1 { peerOne with keyed := some ⟨4, some 31⟩ }).setBids
          (resetBids.set 1 (some ⟨4, .run, 31, 967, 1000⟩));
        (s.peer 1).keyed = some ⟨4, some 31⟩ ∧ s.bids[(1 : Node)] = some ⟨4, .run, 31, 967, 1000⟩) := by
  decide +kernel

theorem witness_NoticesReadClearsFlags : hostTakes onAir = true ∧ hostTakes State.reset = true := by decide +kernel

theorem witness_SnapshotFillsHoldingSet : hostTakes onAir = true ∧ (1 : Byte).toNat ≤ 1 ∧ 1 < (2 : Byte).toNat := by decide +kernel

theorem witness_FaultRecordsAndMask :
    hostTakes ground = true ∧ ground.rep.faults[(7 : Node)] = none ∧
      (ground.recordFault 7 .silence .roll 3).rep.faults[(7 : Node)] = some ⟨.silence, .roll, 3, 1000, 0⟩ ∧
      (4095 : BitVec 16).toNat ≤ 4095 := by decide +kernel

theorem witness_HostPortAnswersRecords :
    (ground.inReset = false ∧ hostTakes ground = true ∧ ground.host.discarding = false ∧ ground.host.record = [] ∧
      ground.host.record ++ [0x0A, 41] = 0x0A :: 41 :: [] ∧ 40 < (41 : Byte).toNat ∧
      recordBad ground.cfg [0x0A, 0, 0] = true ∧ ([0] : List Byte).length = (0 : Byte).toNat + 1 ∧
      reached (after ground.host.lastByte 5) ground.now = true) ∧
      (let s := ground.setHost { ground.host with record := [0x0A], lastByte := 996 };
        s.host.record ++ [0] = 0x0A :: 0 :: [] ∧ ([] : List Byte).length ≤ (0 : Byte).toNat ∧
        reached (after s.host.lastByte 5) s.now = false ∧ s.host.record <+: requestBytes 0x0A [] ∧
        reached (after s.host.lastByte 5) (s.now + 1) = true ∧ ¬ s.host.record <+: requestBytes 0x0B []) ∧
      (ground.setHost { ground.host with discarding := true }).host.discarding = true ∧
      (answerOnly ground 1 .ok).host.replies ≠ [] ∧ (answerOnly ground 1 .ok).host.discarding = false := by
  refine ⟨?_, ?_, ?_, ?_, ?_⟩ <;> decide +kernel

/-! ### One step -/

/-- R158, worked sequence of chapter 8: a BID that completes at 8 with L = 12 and A = 12 puts the window end at 32 and the lead
end at 20. -/
theorem test_frameSent_bid :
    let s := (headed 1 (.bid 4 .mult 0) true (bidding.setKey { bidding.key with leadLength := 12 })).setNow 8
    let t := ran .frameSent (s.setBus { s.bus with allowance := some 12 })
    t.tok.windowEnd = some 32 ∧ t.key.lead = .ends 20 := by decide +kernel

/-- Worked sequence of chapter 8: a keydown with d1 = 10 and d2 = 15 whose key-wait ends at 32 takes the AMP step at 42 and the
INHIBIT step at 57. -/
theorem test_keyWaitEnd_steps :
    let s := (((keyed .keyWait false { ground.key with lead := .ends 20 }).setTok heldTokens).setNow 32).setSel
      { ground.sel with tx := { grantedTx with guardEnd := some 18 } }
    let t := ran .keyWaitEnd s
    t.key.state = .stepUp ∧ t.key.ampAt = some 42 ∧ t.key.lastAt = some 57 := by decide +kernel

/-- Worked sequence of chapter 8: PTT released in TRANSMIT at 300 takes AMP off at 315 and ends the tail at 325. -/
theorem test_pttRelease_tail :
    let t := ran .pttRelease (onAir.setNow 300)
    t.key.state = .stepDown ∧ t.key.inhibit = true ∧ t.key.ampAt = some 315 ∧ t.key.lastAt = some 325 ∧
      t.tok.state = .hanging := by decide +kernel

/-- R14, worked sequence of chapter 1: the glitch at 1007 and the return at 1008 move the settle to 1028. -/
theorem test_bandLinesChange_glitch :
    let a := ran (.bandLinesChange 5) (ground.setNow 1000)
    let b := ran (.bandLinesChange 5) ((ran (.bandLinesChange 7) (a.setNow 1007)).setNow 1008)
    settles (b.setNow 1027) = false ∧ settles (b.setNow 1028) = true := by decide +kernel

/-- R14: 5, 4 and 5 within one tick are one sample of it, which begins no candidate. -/
theorem test_bandLinesChange_within_tick :
    let s := ran (.bandLinesChange 5) (ran (.bandLinesChange 4) (ran (.bandLinesChange 5) (ground.setBand ⟨4, 4, 5, 990⟩)))
    s.band = ⟨4, 4, 4, 1000⟩ ∧ s.lines.band = 5 := by decide +kernel

/-- R153: PTT that shows in one sample alone moves the pin and nothing else. -/
theorem test_pttPress_not_due :
    let t := ran .pttPress (ground.setKey { ground.key with sample := true })
    t.key.level = false ∧ t.key.state = .receive ∧ t.lines.ptt = true := by decide +kernel

/-- R28: at 125 000 bit/s the tick adds 11 character times to the idle count, so the ASK of node 0 is due at 12 from a count
of 1, and not from 0. -/
theorem test_frameAttemptStart_gap :
    let s := headed 0 (.ask 0 .tx 4 .mult) true
    attemptDue s = false ∧ ran .frameAttemptStart s = s ∧ attemptDue (idled 1 s) = true ∧
      (ran .frameAttemptStart (idled 1 s)).bus.idle = 12 := by decide +kernel

/-- R24, R27: the last character of a frame acts as the row of its kind. -/
theorem test_busBusy_closes :
    let f := fromOne (.drop 4)
    let s := busy (some ((wireChars f).dropLast)) []
    ran (.busBusy false ((wireChars f).getLast (by decide +kernel))) s = ran (.frameReceivedDrop f) ground := by
  decide +kernel

/-- R182: a tail kind is one byte with its place; R22: NO_PORT, WRONG_BAND and WRONG_USE have the codes of a REFUSE. -/
theorem test_status_codes :
    tailBytes .unkey = [0] ∧ tailBytes (.abort .collision) = [1] ∧
      [LocalReason.noPort, .wrongBand, .wrongUse].map LocalReason.number =
        [RefuseReason.noPort, .wrongBand, .wrongUse].map RefuseReason.code := by decide +kernel

/-- R97: RELEASE TX with the tokens HANGING answers scope 3 and drops the tokens. -/
theorem test_release_tokens :
    let t := ran (.release 1) (ground.setTok ⟨.hanging, some 4, some 0, false, none, some 1200⟩)
    t.host.replies = [⟨0x86, .ok, [3]⟩] ∧ t.tok.state = .free ∧ t.sel.tx.choice = none := by decide +kernel

/-- R43: a gap of two frames is counted, recorded and leaves the record STALE. -/
theorem test_drop_gap :
    let t := ran (.frameReceivedDrop (frameOf 0 1 10 255 (.drop 4))) ground
    t.rep.live.framesLost = 2 ∧ t.rep.faults[(1 : Node)] = some ⟨.sequenceGap, .drop, 10, 1000, 0⟩ ∧
      (t.peer 1).state = .stale := by decide +kernel

/-- R74, R145: the grant of a port whose relay takes 40 + 10 ms, with margin 5, carries settle 55. -/
theorem test_ask_granted :
    let t := ran (.frameReceivedAsk (fromOne askOne)) ground
    t.drv.word = 3 ∧ t.bus.queue.map QueuedFrame.content = [.grant 1 .listen 55] := by decide +kernel

/-- R64: a listener on group 2 is protected while a peer bids on an antenna of the group. -/
theorem test_bid_protects :
    let s := learn (ground.setCfg { store with antennas := store.antennas.set 0 (some ⟨⟨0, 0x38, .tx, 1, 2, 0⟩, []⟩) }) 1
      oneDescriptor
    (ran (.frameReceivedBid (fromOne (.bid 4 .run 31))) s).key.protect = true := by decide +kernel

/-- R187: a RESTART that nothing holds takes effect in the next step of an empty queue. -/
theorem test_restart_takes_effect :
    nextDue (ran .restart ground) = some .restartTakesEffect := by decide +kernel

end Sys2Proof.Tests
end

section
/-! PROOFS. NOTICES (R173), SNAPSHOT and COUNTERS (R176, R177), and what a reset and a RESTART leave of a snapshot. -/

namespace Sys2Proof.Machine

/-! ### Meanings of the requests -/

theorem exec_notices (s : State) : exec .notices s = execNotices s := by rfl

theorem exec_snapshot (clear : Byte) (s : State) : exec (.snapshot clear) s = execSnapshot clear s := by rfl

theorem exec_counters (s : State) : exec .counters s = execCounters s := by rfl

theorem exec_hardReset (straps : BitVec 3) (byLine : Bool) (s : State) :
    exec (.hardReset straps byLine) s = execHardReset straps byLine s := by rfl

theorem exec_restartTakesEffect (s : State) : exec .restartTakesEffect s = execRestartTakesEffect s := by rfl

/-! ### Replies -/

/-- A command that only responds is answered by that reply alone. -/
theorem answersOnly_of_respond {c : Instr} {s : State} {kind : Byte} {status : Status} {body : List Byte}
    (h : exec c s = .next (respond s kind status body)) : answersOnly c s (kind ||| 0x80#8) status body :=
  ⟨_, h, rfl, respond_frame ..⟩

/-- A reply after a change of the reporting unit alone. -/
theorem respond_setRep_frame (s : State) (r : Reporting) (kind : Byte) (status : Status) (body : List Byte) :
    ChangesOnly [.rep, .host] s (respond (s.setRep r) kind status body) :=
  ((setRep_frame ..).mono (by decide)).respond _ _ _ (by decide)

/-! ### Counters -/

@[simp] theorem Counters.get_zero (c : Counter) : Counters.zero.get c = 0 := by cases c <;> rfl

/-- A counter is sent with its high byte first. -/
theorem counterBytes_eq (n : Nat) : counterBytes n = [byte (n / 256), byte n] := by
  have high : (BitVec.ofNat 16 n).extractLsb' 8 8 = byte (n / 256) := by
    apply BitVec.eq_of_toNat_eq
    simp only [byte, BitVec.extractLsb'_toNat, BitVec.toNat_ofNat, Nat.shiftRight_eq_div_pow]
    omega
  have low : (BitVec.ofNat 16 n).extractLsb' 0 8 = byte n := by
    apply BitVec.eq_of_toNat_eq
    simp only [byte, BitVec.extractLsb'_toNat, BitVec.toNat_ofNat, Nat.shiftRight_zero]
    omega
  rw [counterBytes, bytes2, high, low]

/-- The body of a COUNTERS reply: the holding set, then the snapshot tick behind its presence byte (R177, R182). -/
theorem countersBody_eq (r : Reporting) :
    countersBody r = r.holding.toList.flatMap (fun n => [byte (n / 256), byte n]) ++ optTick r.snapshotTick := by
  rw [countersBody, funext counterBytes_eq]

/-- COUNTERS answers the holding set and the snapshot tick and changes nothing. -/
theorem counters_answersOnly {s : State} (h : hostTakes s = true) :
    answersOnly .counters s 0x8F .ok (countersBody s.rep) :=
  answersOnly_of_respond ((exec_counters s).trans (request_of_takes h ..))

/-! ### Notices -/

/-- ALERT is down when no change flag is set (R174). -/
theorem alertOf_cleared (r : Reporting) : alertOf { r with flags := 0 } = false := by simp [alertOf]

/-- With the change flags cleared, ALERT falls and the reporting unit is otherwise as it was. -/
theorem evalAlert_cleared (s : State) :
    evalAlert (s.setRep { s.rep with flags := 0 }) = s.setRep { s.rep with flags := 0, alert := false } := by
  simp only [evalAlert, State.setRep_rep, alertOf_cleared]
  rfl

/-! ### SNAPSHOT (R176) -/

/-- The reporting unit after a snapshot, whose live counters are cleared when asked. -/
def Reporting.snapshot (r : Reporting) (now : Tick) (clear : Byte) : Reporting :=
  { r with
    holding := r.live
    snapshotTick := some now
    live := if clear = 1 then Counters.zero else r.live }

theorem Reporting.snapshot_live_get (r : Reporting) (now : Tick) (clear : Byte) (c : Counter) :
    (r.snapshot now clear).live.get c = if clear = 1 then 0 else r.live.get c := by
  unfold Reporting.snapshot
  split <;> simp

/-- A SNAPSHOT taken with a clear of 0 or 1. -/
theorem exec_snapshot_taken {s : State} (h : hostTakes s = true) {clear : Byte} (hc : clear.toNat ≤ 1) :
    exec (.snapshot clear) s = .next (answerOnly (s.setRep (s.rep.snapshot s.now clear)) 0x0E .ok) := by
  rw [exec_snapshot, execSnapshot, request_of_takes h, if_neg (Nat.not_lt.mpr hc)]
  rfl

/-- A SNAPSHOT with another clear is refused. -/
theorem exec_snapshot_refused {s : State} (h : hostTakes s = true) {clear : Byte} (hc : 1 < clear.toNat) :
    exec (.snapshot clear) s = .next (respond s 0x0E .badValue []) := by
  rw [exec_snapshot, execSnapshot, request_of_takes h, if_pos hc]
  rfl

/-! ### What keeps a snapshot -/

/-- The holding set and the snapshot tick are the same in two states. -/
structure KeepsSnapshot (s t : State) : Prop where
  holding : t.rep.holding = s.rep.holding
  tick : t.rep.snapshotTick = s.rep.snapshotTick

theorem KeepsSnapshot.refl {s : State} : KeepsSnapshot s s := ⟨rfl, rfl⟩

theorem KeepsSnapshot.trans {s t u : State} (h : KeepsSnapshot s t) (h' : KeepsSnapshot t u) : KeepsSnapshot s u :=
  ⟨h'.holding.trans h.holding, h'.tick.trans h.tick⟩

theorem enqueue_keepsSnapshot (s : State) (c : Content) (d : Byte) (o : Bool) : KeepsSnapshot s (enqueue s c d o).1 := by
  unfold enqueue
  dsimp only
  split <;> exact ⟨rfl, rfl⟩

/-- Of the opening frames, only an overrun of the queue touches the reporting unit, and it counts live. -/
theorem openSession_keepsSnapshot (s : State) : KeepsSnapshot s (openSession s) := by
  have hello : KeepsSnapshot s (announce s (.hello (s.digest.getD 0) (ownDescriptors s))) := enqueue_keepsSnapshot ..
  have roll : ∀ (u : State) (due : Tick), KeepsSnapshot u (queueRoll u due) := fun u _ =>
    (enqueue_keepsSnapshot u ..).trans ⟨rfl, rfl⟩
  exact hello.trans (roll ..)

theorem evalOutputs_keepsSnapshot (s : State) : KeepsSnapshot s (evalOutputs s) := ⟨rfl, rfl⟩

/-- RESTART resets no holding counter and not the snapshot tick (R176, R187). -/
theorem restartEffects_keepsSnapshot (s : State) : KeepsSnapshot s (restartEffects s) := by
  unfold restartEffects
  have records : KeepsSnapshot s
      (recompute (beginListenIn ((restartRecords s).setHost { s.host with restartHeld := false }))) := ⟨rfl, rfl⟩
  have outputs := (records.trans (openSession_keepsSnapshot _)).trans (evalOutputs_keepsSnapshot _)
  exact outputs.trans ⟨rfl, rfl⟩

end Sys2Proof.Machine

/-! ### The obligations -/

open Sys2Proof Sys2Proof.Machine

/-- Settles O58, from what a taken and a refused SNAPSHOT do, the body of a COUNTERS reply, and RESTART keeping the snapshot. -/
theorem snapshotFillsHoldingSet : Obligations.SnapshotFillsHoldingSet := by
  intro s clear
  refine ⟨fun h => ⟨fun hc => ?_, fun hc => ?_, ?_⟩, fun straps byLine => ?_, ?_, rfl⟩
  case refine_1 =>
    exact ⟨_, exec_snapshot_taken h hc, rfl, fun c => ⟨rfl, s.rep.snapshot_live_get s.now clear c⟩, rfl,
      respond_setRep_frame ..⟩
  case refine_2 => exact answersOnly_of_respond (exec_snapshot_refused h hc)
  case refine_3 =>
    have answer := counters_answersOnly h
    rw [countersBody_eq] at answer
    generalize s.rep.snapshotTick = tick at answer ⊢
    cases tick <;> exact answer
  case refine_4 => exact ⟨_, exec_hardReset .., rfl, Counters.get_zero⟩
  case refine_5 =>
    have kept : KeepsSnapshot s (if !s.inReset && restartReady s then restartEffects s else s) := by
      split
      · exact restartEffects_keepsSnapshot s
      · exact .refl
    exact ⟨_, exec_restartTakesEffect s, kept.holding, kept.tick⟩

/-- Settles O57: clearing the flags brings ALERT down, and the reply carries what stood before. -/
theorem noticesReadClearsFlags : Obligations.NoticesReadClearsFlags := by
  intro s h
  have run : exec .notices s =
      .next (respond (s.setRep { s.rep with flags := 0, alert := false }) 0x0B .ok (noticesBody s.rep)) := by
    rw [exec_notices, execNotices, request_of_takes h, evalAlert_cleared]
  exact ⟨_, run, rfl, rfl, respond_setRep_frame ..⟩

end
